-- ==== Sys2Proof/Word.lean ====
section
/-! DEFINITION. The names, numbers and words of the part (00_scope.md, Terms and Conventions). -/

namespace Sys2Proof

/-- A byte of the management port, of the boot port or of the image. -/
abbrev Byte := BitVec 8

/-- A 32-bit word: a host address, a data slot of the host link (R24), the data lines of the target bus
(R151), a beat value held in its low-order bytes (R110), the timebase counter (R187). -/
abbrev Word := BitVec 32

/-- A 28-bit target address, given together with its select (00_scope.md, Conventions). -/
abbrev TAddr := BitVec 28

/-- *Initiator i*, 0 to 7. -/
abbrev Initiator := Fin 8

/-- *Tag t*, 0 to 15. -/
abbrev Tag := Fin 16

/-- One of the four target bus chip selects. -/
abbrev Select := Fin 4

/-- The index of a region table entry (R1). -/
abbrev RegionIx := Fin 16

/-- The number of a capture entry (R66). -/
abbrev EntryIx := Fin 32

/-- The number of a reservation slot (R128). -/
abbrev SlotIx := Fin 4

end Sys2Proof
end

