-- ==== Sys2Proof/Config.lean ====
section
/-! DEFINITION. What the manual fixes as numbers of the part. It leaves no value of the part's behaviour
undefined, so there is no free value here. -/

namespace Sys2Proof.Config

/-- Records the event queue holds at most (R171). -/
def queueDepth : Nat := 16

/-- Free entries an uncommitted speculative read needs: its own and the reserve of two (R70). -/
def speculativeNeed : Nat := 3

/-- Free entries a committed read that needs a target beat needs (R70). -/
def committedNeed : Nat := 1

/-- The free count at which the exhaustion latch clears (R83). -/
def rearmLevel : Nat := 4

/-- Ticks in a millisecond of the drain limit (R9). -/
def ticksPerMs : Nat := 1000

/-- The timebase divider when no image supplies one (R180, R184). -/
def defaultDivider : Byte := 25

/-- The drain limit in ms when no image supplies one (R9). -/
def defaultDrainLimit : Byte := 255

/-- The wait limit in µs of a select when no image supplies one (R158). -/
def defaultWaitLimit : Byte := 32

/-- One copy of the image's identity (R182). -/
def identity : List Byte := [0xA7, 0x3C]

/-- What the boot port sends before the image bytes come in: the read command byte, then a 24-bit address of zero, most
significant byte first (R181). -/
def flashRead : List Byte := [0x03, 0x00, 0x00, 0x00]

/-- The image's format version (R182). -/
def imageVersion : Byte := 1

/-- The management command codes (R165). -/
def codeGetStatus : Byte := 0x01
def codeTakeEvent : Byte := 0x02
def codeSetAlertMask : Byte := 0x03
def codeClearOverflow : Byte := 0x04
def codeStageRegion : Byte := 0x10
def codeApplyRegion : Byte := 0x11
def codeReadRegion : Byte := 0x12
def codeSetSelect : Byte := 0x13
def codeReadTag : Byte := 0x20
def codeReadCapture : Byte := 0x21
def codeReadReservations : Byte := 0x22
def codeDiscardStrands : Byte := 0x30
def codeBreakLock : Byte := 0x31
def codeHold : Byte := 0x40
def codeRelease : Byte := 0x41

/-- Every code of the command table (R165). -/
def commandCodes : List Byte :=
  [codeGetStatus, codeTakeEvent, codeSetAlertMask, codeClearOverflow, codeStageRegion, codeApplyRegion,
    codeReadRegion, codeSetSelect, codeReadTag, codeReadCapture, codeReadReservations, codeDiscardStrands,
    codeBreakLock, codeHold, codeRelease]

end Sys2Proof.Config
end

