-- ==== Sys2Proof/Syntax.lean ====
section
/-! DEFINITION. The commands and events the part takes: one constructor of `Instr` for every row of
spec/opcode_table.json. Operands are the fields the spec's layouts give the message, the frame, the sampled
lines or the image bytes that the row stands for. -/

namespace Sys2Proof

/-- The pair (initiator, tag): the name of a request and of its tag record (R19, R32). -/
structure Pair where
  initiator : Initiator
  tag : Tag
  deriving DecidableEq, Repr

/-- A request of the host link, less its kind, which is the command's own (R19, R24): the beat size code and
the beat count as the message carries them, malformed values included, and the data slots framed with it. -/
structure Request where
  initiator : Initiator
  tag : Tag
  speculative : Bool
  sizeCode : BitVec 2
  count : BitVec 4
  address : Word
  slots : List Word
  deriving DecidableEq, Repr

/-- The pair that names a request. -/
def Request.pair (r : Request) : Pair := ⟨r.initiator, r.tag⟩

/-- The commands and events of the part. A row of the table that another source than an initiator or the
board controller brings about (a timer's expiry, the sequencer's grant, a target's answer, the end of the
boot read) is a command like the rest: it says that this event is taken now. -/
inductive Instr where
  /-- POWER_ON_RESET (R180), with the level of the BOOTSEL strap that it samples. -/
  | powerOnReset (bootsel : Bool)
  /-- HOST_LINK_RESET (R39). -/
  | hostLinkReset
  /-- READ (R25). -/
  | read (r : Request)
  /-- WRITE (R111). -/
  | write (r : Request)
  /-- LOCK_READ (R131). -/
  | lockRead (r : Request)
  /-- LOCK_WRITE (R136). -/
  | lockWrite (r : Request)
  /-- UNLOCK (R25). -/
  | unlock (r : Request)
  /-- COMMIT (R45) of the pair. -/
  | commit (p : Pair)
  /-- KILL (R47) of the pair. -/
  | kill (p : Pair)
  /-- FLUSH (R49) anchored on the pair. -/
  | flush (p : Pair)
  /-- VERDICT_TIMER_EXPIRY (R52) of the pair's record. -/
  | verdictTimerExpiry (p : Pair)
  /-- STRAND_TIMER_EXPIRY (R103) of the strand in a capture entry. -/
  | strandTimerExpiry (e : EntryIx)
  /-- LOCK_TIMER_EXPIRY (R135) of the reservation in a slot. -/
  | lockTimerExpiry (k : SlotIx)
  /-- DRAIN_TIMER_EXPIRY (R15). -/
  | drainTimerExpiry
  /-- WAIT_TIMER_EXPIRY (R154) of the beat in flight. -/
  | waitTimerExpiry
  /-- TIMEBASE_TICK (R187), with the expiries of the timers that reach their limit at it (R188, log entry 6). -/
  | timebaseTick
  /-- DRAIN_COMPLETE (R14). -/
  | drainComplete
  /-- GRANT (R146). -/
  | grant
  /-- BEAT_ISSUE (R150). -/
  | beatIssue
  /-- TARGET_READY (R152), with the data lines as they stand when ready is sampled. -/
  | targetReady (lines : Word)
  /-- TARGET_ERROR (R153), with the level of the ready input sampled beside it (R151). -/
  | targetError (ready : Bool)
  /-- STRAY_ANSWER (R151): an error (`true`) or a ready (`false`) sampled while no beat is in flight. -/
  | strayAnswer (error : Bool)
  /-- UNLOCK_PERFORM (R141) of the UNLOCK that the initiator has ready. -/
  | unlockPerform (i : Initiator)
  /-- GET_STATUS (R167). -/
  | getStatus
  /-- TAKE_EVENT (R174). -/
  | takeEvent
  /-- SET_ALERT_MASK (R176), with its three parameter bytes as one little-endian value. -/
  | setAlertMask (mask : BitVec 24)
  /-- CLEAR_OVERFLOW (R175). -/
  | clearOverflow
  /-- STAGE_REGION (R10), with the 16 bytes of its region record (R166). -/
  | stageRegion (record : Vector Byte 16)
  /-- APPLY_REGION (R10). -/
  | applyRegion (index : Byte)
  /-- READ_REGION (R17). -/
  | readRegion (index : Byte)
  /-- SET_SELECT (R158). -/
  | setSelect (select : Byte) (limit : Byte)
  /-- READ_TAG (R168). -/
  | readTag (initiator : Byte) (tag : Byte)
  /-- READ_CAPTURE (R87). -/
  | readCapture (entry : Byte)
  /-- READ_RESERVATIONS (R144). -/
  | readReservations
  /-- DISCARD_STRANDS (R104). -/
  | discardStrands (scope : Byte) (region : Byte) (select : Byte) (address : Word)
  /-- BREAK_LOCK (R142). -/
  | breakLock (initiator : Byte)
  /-- HOLD (R185). -/
  | hold
  /-- RELEASE (R185). -/
  | release
  /-- UNKNOWN_COMMAND (R162): a code that the command table does not hold. -/
  | unknownCommand (code : Byte)
  /-- FRAME_END (R161). -/
  | frameEnd
  /-- HEADER_READ_DONE (R181), with the bytes 0 to 11 of the flash. The part has read bytes 4 to 11 only
  when check 1 passes on bytes 0 to 3. -/
  | headerReadDone (header : Vector Byte 12)
  /-- END_OF_LOADING (R184), with the bytes of the image's body: the region records and the checksum. There
  are none when the read ended at the header. -/
  | endOfLoading (body : List Byte)
  /-- FRAME_START (R161). -/
  | frameStart
  deriving DecidableEq, Repr

end Sys2Proof
end

