-- ==== Sys2Proof/Machine/State.lean ====
section
/-! DEFINITION. Everything the part holds, block by block, as plain data; the reasons a step can stop; and the
part right after power-on reset. -/

namespace Sys2Proof.Machine

/-! ## Region table (chapter 1) -/

/-- A region class that takes part in matching (R2). OFF is the absence of one. -/
inductive RegionClass where
  | pass
  | hold
  | capture
  deriving DecidableEq, Repr

/-- Where the beats of a burst land (R3). -/
inductive BeatMode where
  | fixed
  | step
  deriving DecidableEq, Repr

/-- A beat size: 1, 2 or 4 bytes, or the size 0 that an error record holds for beat size code 3 (R31). -/
inductive BeatSize where
  | unnamed
  | one
  | two
  | four
  deriving DecidableEq, Repr

/-- A region entry, or the staging record, with every field as it was written (R1, R166): a staged record
need not be valid, so class, beat mode and the exponents are the layout's own codes. -/
structure RegionEntry where
  cls : BitVec 3
  lock : Bool
  hostExp : Byte
  spanExp : Byte
  hostBase : Word
  targetBase : TAddr
  select : Select
  mode : BitVec 2
  verdictLimit : BitVec 12
  lockLimit : BitVec 10
  strandWindow : BitVec 16
  deriving DecidableEq, Repr

/-- An OFF entry with all other fields zero (R16). -/
def RegionEntry.off : RegionEntry :=
  { cls := 0, lock := false, hostExp := 0, spanExp := 0, hostBase := 0, targetBase := 0, select := 0, mode := 0,
    verdictLimit := 0, lockLimit := 0, strandWindow := 0 }

/-- The apply state (R9): in DRAINING with the draining region and the ticks left of the drain timer. -/
inductive ApplyState where
  | idle
  | draining (region : RegionIx) (timer : Nat)
  deriving DecidableEq, Repr

/-! ## Tag table (chapters 2 and 3) -/

/-- The kinds of request (R19). -/
inductive Kind where
  | read
  | write
  | lockRead
  | lockWrite
  | unlock
  deriving DecidableEq, Repr

/-- A record's verdict (R32). -/
inductive Verdict where
  | none
  | committed
  deriving DecidableEq, Repr

/-- A record's position (R34). -/
inductive Position where
  | waiting
  | issued
  | done
  deriving DecidableEq, Repr

/-- A record's response field (R32). -/
inductive ResponseState where
  | pending
  | sent
  deriving DecidableEq, Repr

/-- What a record copies from the region table at acceptance (R6). -/
structure Place where
  region : RegionIx
  select : Select
  start : TAddr
  cls : RegionClass
  mode : BeatMode
  base : TAddr
  span : Nat
  verdictLimit : BitVec 12
  strandWindow : BitVec 16
  lockLimit : Option (BitVec 10)
  deriving DecidableEq, Repr

/-- A live tag record (R32). `place` is absent in UNLOCK and error records; `timer` is the verdict timer's
remaining ticks; `mark` is the lock-lost mark of a LOCK-READ. -/
structure TagRecord where
  kind : Kind
  place : Option Place
  size : BeatSize
  count : Nat
  speculative : Bool
  verdict : Verdict
  position : Position
  response : ResponseState
  order : Nat
  data : List Word
  entry : Option EntryIx
  timer : Option Nat
  mark : Bool
  deriving DecidableEq, Repr

/-! ## Capture table (chapters 4 and 5) -/

/-- The state of an entry that is not FREE, with the fields that only that state has (R66). -/
inductive EntryState where
  | filling (bound : Option Pair) (requested : Nat)
  | captured (bound : Pair)
  | stranded (sequence : Nat) (timer : Option Nat)
  deriving DecidableEq, Repr

/-- A capture entry that is not FREE (R66). `allocation` is the place of its allocation among all
allocations, which the capture table remembers for every entry that is not FREE (R92). -/
structure CaptureEntry where
  state : EntryState
  region : RegionIx
  select : Select
  start : TAddr
  size : BeatSize
  mode : BeatMode
  window : BitVec 16
  beats : List Word
  allocation : Nat
  deriving DecidableEq, Repr

/-! ## Lock table (chapter 7) -/

/-- The state of a reservation, with the lock timer's remaining ticks or the tag of the lock-write record. -/
inductive LockState where
  | reserved (timer : Nat)
  | writing (lockWrite : Tag)
  deriving DecidableEq, Repr

/-- A reservation (R128). Its lock-read and lock-write records are records of its own initiator, so their tags
name them. -/
structure Reservation where
  initiator : Initiator
  select : Select
  granule : TAddr
  region : RegionIx
  state : LockState
  lockRead : Option Tag
  deriving DecidableEq, Repr

/-! ## Target sequencer (chapter 8) -/

/-- The two sides of an access's kind (R145). -/
inductive AccessKind where
  | read
  | write
  deriving DecidableEq, Repr

/-- The beat in flight and its wait timer's remaining ticks (R145). -/
structure Flight where
  beat : Nat
  timer : Nat
  deriving DecidableEq, Repr

/-- The open access (R145). `live` is false once the record it was granted for has been removed. -/
structure Access where
  pair : Pair
  live : Bool
  kind : AccessKind
  place : Place
  size : BeatSize
  first : Nat
  count : Nat
  next : Nat
  limit : Byte
  flight : Option Flight
  entry : Option EntryIx
  buffer : List Word
  deriving DecidableEq, Repr

/-- One strobe on the target bus with what the part drives beside it (R151): the select, the 28-bit address,
the enabled byte lanes, and for a write the data lines. -/
structure Strobe where
  write : Bool
  select : Select
  address : TAddr
  lanes : BitVec 4
  lines : Word
  deriving DecidableEq, Repr

/-! ## Host link responses (chapter 2) -/

/-- The statuses of DATA, ACK and ERROR responses (R22). -/
inductive Status where
  | ok
  | targetError
  | targetTimeout
  | unmapped
  | misaligned
  | splitRegion
  | badRequest
  | mismatch
  | lockDenied
  | lockLost
  | abandoned
  deriving DecidableEq, Repr

/-- The reasons of a RETRY (R23). -/
inductive Reason where
  | notRunning
  | draining
  | reserved
  | locksFull
  deriving DecidableEq, Repr

/-- A response of the part (R21). The valid-beat count of a DATA is the length of its beats. -/
inductive Response where
  | data (p : Pair) (status : Status) (strandBeats : Nat) (beats : List Word)
  | ack (p : Pair) (status : Status)
  | error (p : Pair) (status : Status)
  | retry (p : Pair) (reason : Reason)
  deriving DecidableEq, Repr

/-! ## Event queue and management port (chapter 9) -/

/-- The 17 event kinds (R173). -/
inductive EventKind where
  | strandExpired
  | strandsDiscarded
  | strandMismatch
  | readFault
  | writeFault
  | verdictTimeout
  | verdictUnknown
  | verdictConflict
  | tagReuse
  | unmapped
  | lockBroken
  | captureExhausted
  | hostReset
  | applyDone
  | applyTimeout
  | imageAbsent
  | imageCorrupt
  deriving DecidableEq, Repr

/-- An event record (R173). A field the raising rule does not set is zero. -/
structure EventRecord where
  kind : EventKind
  initiator : Initiator := 0
  select : Select := 0
  tag : Byte := 0
  region : RegionIx := 0
  timestamp : Word := 0
  address : Word := 0
  countA : BitVec 16 := 0
  countB : BitVec 16 := 0
  deriving DecidableEq, Repr

/-- The phases of a frame (R161). -/
inductive Phase where
  | command
  | parameters
  | turnaround
  | response
  deriving DecidableEq, Repr

/-- The frame in progress (R161): its phase, the command code, the parameter bytes received so far, the response (status
byte first) once it has been built, and how many bytes of the response phase have been clocked out. -/
structure Frame where
  phase : Phase
  code : Option Byte
  params : List Byte
  response : List Byte
  sent : Nat
  deriving DecidableEq, Repr

/-- The frame as the select's assertion begins it (R161). -/
def Frame.begun : Frame := { phase := .command, code := none, params := [], response := [], sent := 0 }

/-- The management port: its select deasserted, a frame in progress, or a select still asserted from before a
power-on reset, whose frame is ignored to its end (R178). -/
inductive Port where
  | deselected
  | ignored
  | frame (f : Frame)
  deriving DecidableEq, Repr

/-! ## Start-up controller (chapter 10) -/

/-- The operating state (R179). -/
inductive OperatingState where
  | loading
  | held
  | running
  deriving DecidableEq, Repr

/-- The image result (R167). -/
inductive ImageResult where
  | loading
  | valid
  | absent
  | corrupt
  | notRead
  deriving DecidableEq, Repr

/-- A failed check of the image (R183): absent, with whether the four bytes read 0xFF, or corrupt with the
cause, the offset and the record's index. -/
inductive ImageFailure where
  | absent (allOnes : Bool)
  | corrupt (cause : Nat) (offset : Nat) (index : RegionIx)
  deriving DecidableEq, Repr

/-- The boot progress (R180, R181): no read; reading the header, check 1 next; header read and checks 1 to 4
passed, reading the body, check 5 next; read ended at the header by a failed check. -/
inductive Boot where
  | idle
  | header
  | body (header : Vector Byte 12)
  | ended (header : Vector Byte 12) (failure : ImageFailure)
  deriving DecidableEq, Repr

/-! ## The part -/

/-- Everything the part holds. The order lists are the records seen through their positions and order numbers
(section 3.7), ALERT and the select lines are functions of what is held (R177, R151), and the free count is a
count of entries (R69), so none of these is stored apart. -/
structure State where
  /-- The 16 region entries (R1). -/
  regions : Vector RegionEntry 16
  /-- The staging record (R10). -/
  staging : RegionEntry
  /-- The apply state, with the draining region and the drain timer (R9). -/
  apply : ApplyState
  /-- The drain limit in ms (R9). -/
  drainLimit : Byte
  /-- The 128 tag records, by initiator and tag; `none` is a free record (R32). -/
  tags : Vector (Vector (Option TagRecord) 16) 8
  /-- The acceptance counters (R33). -/
  acceptance : Vector Nat 8
  /-- The 32 capture entries; `none` is FREE (R66). -/
  entries : Vector (Option CaptureEntry) 32
  /-- The exhaustion latch (R81). -/
  latch : Bool
  /-- The strand sequence counter (R91). -/
  strandCounter : Nat
  /-- How many entries have been allocated, which places the next allocation after every earlier one (R92). -/
  allocations : Nat
  /-- The 4 reservation slots; `none` is free (R128). -/
  slots : Vector (Option Reservation) 4
  /-- The lock-lost flags (R130). -/
  lockLost : Vector Bool 8
  /-- The round-robin pointer (R145). -/
  pointer : Initiator
  /-- The wait limits of the selects in µs (R145). -/
  waitLimits : Vector Byte 4
  /-- The open access; `none` is IDLE (R145). -/
  access : Option Access
  /-- The event records, oldest first (R171). -/
  events : List EventRecord
  /-- The overflow flag (R171). -/
  overflow : Bool
  /-- The alert mask: bit `k - 1` enables kind `k` (R176). -/
  alertMask : BitVec 17
  /-- The management port (R161). -/
  port : Port
  /-- The operating state (R179). -/
  operating : OperatingState
  /-- The image result (R180). -/
  image : ImageResult
  /-- The boot progress (R180). -/
  boot : Boot
  /-- The timebase divider (R187). -/
  divider : Byte
  /-- The timebase counter (R187). -/
  timebase : Word
  /-- The MODEL's own record of the host link's outgoing side: every response sent so far, oldest first. -/
  responses : List Response
  /-- The MODEL's own record of the target bus: every strobe driven so far, oldest first. -/
  strobes : List Strobe
  /-- The MODEL's own record of what the board controller clocks on data in: the bytes not clocked yet, the next one first
  (log entry 9). -/
  dataIn : List Byte
  /-- The commands and events that wait to be taken, the next one first (the model's queue). -/
  pending : List Instr
  deriving DecidableEq, Repr

/-- Why the part stops with a fault. The manual gives every command and event an effect in every state, so
there is no such reason and nothing raises one. -/
inductive Fault where
  deriving DecidableEq, Repr

/-- Why a command is refused. -/
inductive Refusal where
  /-- Raised by `exec` alone, for a row of the table that has no meaning yet (safe: the run stops there). -/
  | notModelled (mnemonic : String)
  deriving DecidableEq, Repr

/-- The answer of a meaning. -/
abbrev Answer := Host.Outcome State Fault Refusal

/-- The part right after a power-on reset that sampled BOOTSEL low, with the management select deasserted: every
table and queue empty, the settings at their defaults, in LOADING with the boot read begun (R16, R38, R86,
R108, R143, R159, R178, R180). BOOTSEL low is a DESIGN CHOICE (log entry 1). -/
def State.reset : State :=
  { regions := Vector.replicate 16 RegionEntry.off
    staging := RegionEntry.off
    apply := .idle
    drainLimit := Config.defaultDrainLimit
    tags := Vector.replicate 8 (Vector.replicate 16 none)
    acceptance := Vector.replicate 8 0
    entries := Vector.replicate 32 none
    latch := false
    strandCounter := 0
    allocations := 0
    slots := Vector.replicate 4 none
    lockLost := Vector.replicate 8 false
    pointer := 0
    waitLimits := Vector.replicate 4 Config.defaultWaitLimit
    access := none
    events := []
    overflow := false
    alertMask := BitVec.allOnes 17
    port := .deselected
    operating := .loading
    image := .loading
    boot := .header
    divider := Config.defaultDivider
    timebase := 0
    responses := []
    strobes := []
    dataIn := []
    pending := [] }

end Sys2Proof.Machine
end

