-- ==== Sys2Proof/Machine/Operands.lean ====
section
/-! DEFINITION. How the part reads its operands: byte order, beat values, the region record, translation, the
addresses and footprints of beats, and the contents of the configuration image. -/

namespace Sys2Proof.Machine

/-! ## Bytes -/

/-- The `k` bytes of a little-endian field (R165). -/
def leBytes (k : Nat) (n : Nat) : List Byte :=
  (List.range k).map fun j => BitVec.ofNat 8 (n >>> (8 * j))

/-- The value of a little-endian field. -/
def ofBytes : List Byte → Nat
  | [] => 0
  | b :: bs => b.toNat + 256 * ofBytes bs

/-- Byte `k` of a record. -/
def byteAt (bs : List Byte) (k : Nat) : Nat := (bs.getD k 0).toNat

/-- The field of `n` bytes at byte `k` of a record. -/
def fieldAt (bs : List Byte) (k n : Nat) : Nat := ofBytes ((bs.drop k).take n)

/-! ## Beat sizes and beat values -/

/-- The beat size of a beat size code; code 3 names no size (R24, R31). -/
def beatSizeOf (code : BitVec 2) : BeatSize :=
  if code = 0 then .one else if code = 1 then .two else if code = 2 then .four else .unnamed

/-- The bytes of a beat. -/
def BeatSize.bytes : BeatSize → Nat
  | .unnamed => 0
  | .one => 1
  | .two => 2
  | .four => 4

/-- A beat's value: the low-order bytes of its slot, as many as the beat size, the others dropped
(R24, R110). -/
def beatValue (size : BeatSize) (slot : Word) : Word :=
  BitVec.ofNat 32 (slot.toNat % 2 ^ (8 * size.bytes))

/-! ## Byte lanes (R151): lane `k` carries the byte whose address is `k` modulo 4 -/

/-- The lanes a beat occupies. -/
def laneMask (size : BeatSize) (address : Nat) : BitVec 4 :=
  BitVec.ofNat 4 ((2 ^ size.bytes - 1) <<< (address % 4))

/-- A beat's value driven on its lanes. -/
def toLines (address : Nat) (value : Word) : Word := value <<< (8 * (address % 4))

/-- A beat's value taken from its lanes. -/
def fromLines (size : BeatSize) (address : Nat) (lines : Word) : Word :=
  beatValue size (lines >>> (8 * (address % 4)))

/-! ## Region entries -/

/-- The class a class code names (R166). OFF takes no part in matching (R4), and no more do the codes 4 to 7, which name no
class: of these R4 does not speak, and that is a DESIGN CHOICE (log entry 12). -/
def classOf (code : BitVec 3) : Option RegionClass :=
  if code = 1 then some .pass else if code = 2 then some .hold else if code = 3 then some .capture else none

/-- The beat mode of a mode code (R166). Of a valid entry the code is 0 or 1. -/
def modeOf (code : BitVec 2) : BeatMode := if code = 1 then .step else .fixed

/-- The host size of an entry. -/
def RegionEntry.hostSize (e : RegionEntry) : Nat := 2 ^ e.hostExp.toNat

/-- The target span of an entry. -/
def RegionEntry.span (e : RegionEntry) : Nat := 2 ^ e.spanExp.toNat

/-- The host window of an entry contains the byte at `a` (R1). -/
def RegionEntry.covers (e : RegionEntry) (a : Nat) : Bool :=
  decide (e.hostBase.toNat ≤ a) && decide (a < e.hostBase.toNat + e.hostSize)

/-- An entry is valid (R8). A 2-bit select, a 12-bit verdict limit and a 16-bit strand window are in range by
their width, as is a 10-bit lock limit above 0. -/
def RegionEntry.valid (e : RegionEntry) : Bool :=
  decide (e.cls = 0) ||
    ((classOf e.cls).isSome && decide (e.mode.toNat ≤ 1) &&
      decide (12 ≤ e.hostExp.toNat ∧ e.hostExp.toNat ≤ 32) &&
      decide (2 ≤ e.spanExp.toNat ∧ e.spanExp.toNat ≤ 28) &&
      decide (e.spanExp.toNat ≤ e.hostExp.toNat) &&
      decide (e.hostBase.toNat % e.hostSize = 0) &&
      decide (e.targetBase.toNat % e.span = 0) &&
      !(e.lock && decide (e.cls = 3)) &&
      decide (1 ≤ e.lockLimit.toNat))

/-- The fallback table's region 0 (R184). -/
def RegionEntry.fallback : RegionEntry :=
  { cls := 1, lock := false, hostExp := 32, spanExp := 28, hostBase := 0, targetBase := 0, select := 0, mode := 1,
    verdictLimit := 0, lockLimit := 1, strandWindow := 0 }

/-- The 16 bytes of a region record (R166). -/
def packRegion (index : RegionIx) (e : RegionEntry) : List Byte :=
  leBytes 1 (index.val + 16 * e.cls.toNat + 128 * e.lock.toNat) ++ [e.hostExp, e.spanExp] ++
    leBytes 4 e.hostBase.toNat ++
    leBytes 4 (e.targetBase.toNat + 2 ^ 28 * e.select.val + 2 ^ 30 * e.mode.toNat) ++
    leBytes 3 (e.verdictLimit.toNat + 2 ^ 12 * e.lockLimit.toNat) ++ leBytes 2 e.strandWindow.toNat

/-- The entry a region record holds: every field but the index as written (R166). -/
def unpackRegion (bs : List Byte) : RegionEntry :=
  { cls := BitVec.ofNat 3 (byteAt bs 0 / 16)
    lock := decide (128 ≤ byteAt bs 0)
    hostExp := bs.getD 1 0
    spanExp := bs.getD 2 0
    hostBase := BitVec.ofNat 32 (fieldAt bs 3 4)
    targetBase := BitVec.ofNat 28 (fieldAt bs 7 4)
    select := Fin.ofNat 4 (fieldAt bs 7 4 / 2 ^ 28)
    mode := BitVec.ofNat 2 (fieldAt bs 7 4 / 2 ^ 30)
    verdictLimit := BitVec.ofNat 12 (fieldAt bs 11 3)
    lockLimit := BitVec.ofNat 10 (fieldAt bs 11 3 / 2 ^ 12)
    strandWindow := BitVec.ofNat 16 (fieldAt bs 14 2) }

/-- The region index in byte 0 of a region record (R166). -/
def recordIndex (bs : List Byte) : RegionIx := Fin.ofNat 16 (byteAt bs 0)

/-! ## Matching and translation -/

/-- The matching entry of a host address: the lowest index of a class other than OFF whose window contains it
(R4). An entry of a code that names no class is passed over as an OFF one is: DESIGN CHOICE (log entry 12). -/
def matchRegion (regions : Vector RegionEntry 16) (address : Word) : Option (RegionIx × RegionClass) :=
  (List.finRange 16).findSome? fun r =>
    match classOf regions[r].cls with
    | some c => if regions[r].covers address.toNat then some (r, c) else none
    | none => none

/-- The target address of a host address through an entry (R5). -/
def translate (e : RegionEntry) (address : Nat) : Nat :=
  e.targetBase.toNat + (address - e.hostBase.toNat) % e.span

/-- What a record of a request copies from the entry it matched (R6): the lock limit for a LOCK-READ only. -/
def placeOf (e : RegionEntry) (r : RegionIx) (c : RegionClass) (kind : Kind) (address : Word) : Place :=
  { region := r
    select := e.select
    start := BitVec.ofNat 28 (translate e address.toNat)
    cls := c
    mode := modeOf e.mode
    base := e.targetBase
    span := e.span
    verdictLimit := e.verdictLimit
    strandWindow := e.strandWindow
    lockLimit := if kind = .lockRead then some e.lockLimit else none }

/-! ## Beat addresses and footprints -/

/-- The address `n` bytes after `start` within the window of `span` bytes at `base` (R150, R90, R98). -/
def foldedAddress (base span start n : Nat) : Nat := base + (start - base + n) % span

/-- The target address of beat `b` (R150). -/
def beatAddress (pl : Place) (size : BeatSize) (b : Nat) : Nat :=
  match pl.mode with
  | .fixed => pl.start.toNat
  | .step => foldedAddress pl.base.toNat pl.span pl.start.toNat (b * size.bytes)

/-- The addresses of the bytes of one beat. -/
def beatBytes (size : BeatSize) (address : Nat) : List Nat :=
  (List.range size.bytes).map (address + ·)

/-- The footprint of a request of `count` beats, as the target bytes it touches on its select (R3). -/
def footprint (pl : Place) (size : BeatSize) (count : Nat) : List Nat :=
  match pl.mode with
  | .fixed => beatBytes size pl.start.toNat
  | .step => (List.range count).flatMap fun b => beatBytes size (beatAddress pl size b)

/-- Two sets of bytes share one. -/
def overlap (xs ys : List Nat) : Bool := xs.any fun a => ys.contains a

/-- The first byte of the 8-byte granule of a target address (R131). -/
def granuleOf (address : TAddr) : TAddr := BitVec.ofNat 28 (address.toNat / 8 * 8)

/-- A footprint contains at least one of the 8 bytes of a granule (R129). -/
def touchesGranule (bytes : List Nat) (granule : TAddr) : Bool :=
  bytes.any fun a => decide (granule.toNat ≤ a) && decide (a < granule.toNat + 8)

/-! ## The configuration image (R182) -/

/-- The sum of the half-words of a run of bytes, each read little-endian (R182). -/
def halfWordSum : List Byte → Nat
  | [] => 0
  | [a] => a.toNat
  | a :: b :: rest => a.toNat + 256 * b.toNat + halfWordSum rest

/-- The region count in byte 5 of the header. -/
def regionCount (header : Vector Byte 12) : Nat := header[5].toNat

/-- Record `k` of the body. -/
def imageRecord (body : List Byte) (k : Nat) : List Byte := (body.drop (16 * k)).take 16

/-- The region records of the image, in image order. -/
def imageRecords (header : Vector Byte 12) (body : List Byte) : List (List Byte) :=
  (List.range (regionCount header)).map (imageRecord body)

/-- The offset of the first of the settings of bytes 6 to 11 that is out of range: divider 10 to 100, drain
limit and wait limits 1 to 255 (R182, check 4 of R183). -/
def settingOutOfRange (header : Vector Byte 12) : Option Nat :=
  if header[6].toNat < 10 ∨ 100 < header[6].toNat then some 6
  else if header[7] = 0 then some 7
  else if header[8] = 0 then some 8
  else if header[9] = 0 then some 9
  else if header[10] = 0 then some 10
  else if header[11] = 0 then some 11
  else none

/-- Checks 1 to 4 of R183, made on the header; the first that fails decides. -/
def checkHeader (header : Vector Byte 12) : Option ImageFailure :=
  let bs := header.toList
  if bs.take 2 ≠ Config.identity ∨ (bs.drop 2).take 2 ≠ Config.identity then
    some (.absent (bs.take 4 == List.replicate 4 0xFF))
  else if header[4] ≠ Config.imageVersion then some (.corrupt 1 4 0)
  else if 16 < regionCount header then some (.corrupt 2 5 0)
  else (settingOutOfRange header).map fun offset => .corrupt 3 offset 0

/-- Check 6 of R183 on the records from the `k`th on, `named` being the indices that earlier records named. -/
def checkRecords : Nat → List RegionIx → List (List Byte) → Option ImageFailure
  | _, _, [] => none
  | k, named, bs :: rest =>
    if !(unpackRegion bs).valid then some (.corrupt 5 (12 + 16 * k) (recordIndex bs))
    else if named.contains (recordIndex bs) then some (.corrupt 6 (12 + 16 * k) (recordIndex bs))
    else checkRecords (k + 1) (recordIndex bs :: named) rest

/-- Checks 5 and 6 of R183, made on the whole image. -/
def checkBody (header : Vector Byte 12) (body : List Byte) : Option ImageFailure :=
  if halfWordSum (header.toList ++ body) % 2 ^ 16 ≠ 0 then
    some (.corrupt 4 (12 + 16 * regionCount header) 0)
  else checkRecords 0 [] (imageRecords header body)

/-- The region table a valid image gives: each record in the entry its index names, the others OFF (R184). -/
def imageRegions (header : Vector Byte 12) (body : List Byte) : Vector RegionEntry 16 :=
  (imageRecords header body).foldl (fun t bs => t.set (recordIndex bs) (unpackRegion bs))
    (Vector.replicate 16 RegionEntry.off)

/-- The wait limits of a valid image (R182). -/
def imageWaitLimits (header : Vector Byte 12) : Vector Byte 4 :=
  #v[header[8], header[9], header[10], header[11]]

end Sys2Proof.Machine
end

