-- ==== Sys2Proof/Decode.lean ====
section
/-! DEFINITION. How a command is read from what the ports carry. spec/opcode_table.json gives no row any bits, so no word
spells a command (`decodeTableWord`). The manual gives two formats of its own: the message fields of the host link (R24)
and the frames of the management port (R165); their decoders stand here, with the fields of a response (R24). -/

namespace Sys2Proof

/-- The command that a word spells by the table's bits: the table gives no row any. -/
def decodeTableWord (_nbits _w : Nat) : Option Instr := none

/-! ## Messages of the host link (R24) -/

/-- A message from an initiator: its kind field, and the other fields as a request's. -/
structure LinkMessage where
  kind : BitVec 3
  fields : Request
  deriving DecidableEq, Repr

/-- The command a message stands for. Every code of the kind field is defined; a verdict's other fields are ignored. -/
def decodeMessage (m : LinkMessage) : Instr :=
  if m.kind = 0 then .read m.fields
  else if m.kind = 1 then .write m.fields
  else if m.kind = 2 then .lockRead m.fields
  else if m.kind = 3 then .lockWrite m.fields
  else if m.kind = 4 then .unlock m.fields
  else if m.kind = 5 then .commit m.fields.pair
  else if m.kind = 6 then .kill m.fields.pair
  else .flush m.fields.pair

/-- A verdict's message, its ignored fields zero. -/
def verdictMessage (kind : BitVec 3) (p : Pair) : LinkMessage :=
  { kind := kind
    fields := { initiator := p.initiator, tag := p.tag, speculative := false, sizeCode := 0, count := 0, address := 0
                slots := [] } }

/-- The message of a request or a verdict. -/
def encodeMessage : Instr → Option LinkMessage
  | .read r => some ⟨0, r⟩
  | .write r => some ⟨1, r⟩
  | .lockRead r => some ⟨2, r⟩
  | .lockWrite r => some ⟨3, r⟩
  | .unlock r => some ⟨4, r⟩
  | .commit p => some (verdictMessage 5 p)
  | .kill p => some (verdictMessage 6 p)
  | .flush p => some (verdictMessage 7 p)
  | _ => none

/-- The fields of a response on the link (R24). -/
structure LinkResponse where
  kind : BitVec 2
  initiator : Initiator
  tag : Tag
  code : BitVec 4
  validBeats : BitVec 4
  strandBeats : BitVec 4
  slots : List Word
  deriving DecidableEq, Repr

/-- The code of a status (R24). -/
def Machine.Status.code : Machine.Status → BitVec 4
  | .ok => 0
  | .targetError => 1
  | .targetTimeout => 2
  | .unmapped => 3
  | .misaligned => 4
  | .splitRegion => 5
  | .badRequest => 6
  | .mismatch => 7
  | .lockDenied => 8
  | .lockLost => 9
  | .abandoned => 10

/-- The code of a RETRY's reason (R24). -/
def Machine.Reason.code : Machine.Reason → BitVec 4
  | .notRunning => 0
  | .draining => 1
  | .reserved => 2
  | .locksFull => 3

/-- The fields a response is sent with: the beat counts are zero but in a DATA (R24). -/
def encodeResponse : Machine.Response → LinkResponse
  | .data p st n beats =>
    ⟨0, p.initiator, p.tag, st.code, BitVec.ofNat 4 beats.length, BitVec.ofNat 4 n, beats⟩
  | .ack p st => ⟨1, p.initiator, p.tag, st.code, 0, 0, []⟩
  | .error p st => ⟨2, p.initiator, p.tag, st.code, 0, 0, []⟩
  | .retry p why => ⟨3, p.initiator, p.tag, why.code, 0, 0, []⟩

/-! ## Frames of the management port (R165) -/

/-- The number of parameter bytes of a command code; 0 for a code that is not in the table (R162, R165). -/
def paramBytes (code : Byte) : Nat :=
  if code = Config.codeSetAlertMask then 3
  else if code = Config.codeStageRegion then 16
  else if code = Config.codeApplyRegion then 1
  else if code = Config.codeReadRegion then 1
  else if code = Config.codeSetSelect then 2
  else if code = Config.codeReadTag then 2
  else if code = Config.codeReadCapture then 1
  else if code = Config.codeDiscardStrands then 7
  else if code = Config.codeBreakLock then 1
  else 0

/-- The region record in the first 16 parameter bytes. -/
def recordParam (ps : List Byte) : Vector Byte 16 := Vector.ofFn fun i => ps.getD i 0

/-- The command of a code with its parameter bytes (R165). -/
def commandOf (code : Byte) (ps : List Byte) : Instr :=
  if code = Config.codeGetStatus then .getStatus
  else if code = Config.codeTakeEvent then .takeEvent
  else if code = Config.codeSetAlertMask then .setAlertMask (BitVec.ofNat 24 (Machine.ofBytes ps))
  else if code = Config.codeClearOverflow then .clearOverflow
  else if code = Config.codeStageRegion then .stageRegion (recordParam ps)
  else if code = Config.codeApplyRegion then .applyRegion (ps.getD 0 0)
  else if code = Config.codeReadRegion then .readRegion (ps.getD 0 0)
  else if code = Config.codeSetSelect then .setSelect (ps.getD 0 0) (ps.getD 1 0)
  else if code = Config.codeReadTag then .readTag (ps.getD 0 0) (ps.getD 1 0)
  else if code = Config.codeReadCapture then .readCapture (ps.getD 0 0)
  else if code = Config.codeReadReservations then .readReservations
  else if code = Config.codeDiscardStrands then
    .discardStrands (ps.getD 0 0) (ps.getD 1 0) (ps.getD 2 0) (BitVec.ofNat 32 (Machine.ofBytes (ps.drop 3)))
  else if code = Config.codeBreakLock then .breakLock (ps.getD 0 0)
  else if code = Config.codeHold then .hold
  else if code = Config.codeRelease then .release
  else .unknownCommand code

/-- The command that the bytes clocked in within one frame bring about: none for a short frame; the bytes after the last
parameter byte are ignored (R162). -/
def decodeFrame : List Byte → Option Instr
  | [] => none
  | code :: ps =>
    if ps.length < paramBytes code then none else some (commandOf code (ps.take (paramBytes code)))

/-- The command byte and parameter bytes of a management command (R165). -/
def encodeFrame : Instr → Option (List Byte)
  | .getStatus => some [Config.codeGetStatus]
  | .takeEvent => some [Config.codeTakeEvent]
  | .setAlertMask mask => some (Config.codeSetAlertMask :: Machine.leBytes 3 mask.toNat)
  | .clearOverflow => some [Config.codeClearOverflow]
  | .stageRegion record => some (Config.codeStageRegion :: record.toList)
  | .applyRegion index => some [Config.codeApplyRegion, index]
  | .readRegion index => some [Config.codeReadRegion, index]
  | .setSelect select limit => some [Config.codeSetSelect, select, limit]
  | .readTag initiator tag => some [Config.codeReadTag, initiator, tag]
  | .readCapture entry => some [Config.codeReadCapture, entry]
  | .readReservations => some [Config.codeReadReservations]
  | .discardStrands scope region select address =>
    some (Config.codeDiscardStrands :: scope :: region :: select :: Machine.leBytes 4 address.toNat)
  | .breakLock initiator => some [Config.codeBreakLock, initiator]
  | .hold => some [Config.codeHold]
  | .release => some [Config.codeRelease]
  | .unknownCommand code => some [code]
  | _ => none

end Sys2Proof
end

