-- ==== Sys2Proof/Machine/Flags.lean ====
section
/-! DEFINITION. What the part reads off its tables without changing them: the counts it reports, the lines it
drives, which strands a read would take, and which records are eligible. -/

namespace Sys2Proof.Machine

/-! ## Records -/

/-- The record of a pair; `none` when the pair is not live (R32). -/
def State.tag (s : State) (p : Pair) : Option TagRecord := s.tags[p.initiator][p.tag]

/-- Every pair. -/
def allPairs : List Pair :=
  (List.finRange 8).flatMap fun i => (List.finRange 16).map fun t => ⟨i, t⟩

/-- The pairs of an initiator. -/
def pairsOf (i : Initiator) : List Pair := (List.finRange 16).map fun t => ⟨i, t⟩

/-- Some live record of an initiator satisfies `f`. -/
def State.anyRecord (s : State) (i : Initiator) (f : TagRecord → Bool) : Bool :=
  (pairsOf i).any fun p => (s.tag p).any f

/-- A record is of an ordered kind: every one but a READ of a PASS region (R57). -/
def TagRecord.ordered (r : TagRecord) : Bool :=
  match r.kind with
  | .read => !decide (r.place.map (·.cls) = some .pass)
  | .write => true
  | .lockRead => true
  | .lockWrite => true
  | .unlock => true

/-- A record is of a kind that reads. -/
def TagRecord.reads (r : TagRecord) : Bool := decide (r.kind = .read) || decide (r.kind = .lockRead)

/-- A record is of a kind that writes. -/
def TagRecord.writes (r : TagRecord) : Bool := decide (r.kind = .write) || decide (r.kind = .lockWrite)

/-- A record is a guarded read: a READ or LOCK-READ whose copied class is HOLD or CAPTURE (R2). -/
def TagRecord.guarded (r : TagRecord) (pl : Place) : Bool := r.reads && !decide (pl.cls = .pass)

/-- The release condition: DONE, SENT and COMMITTED (R35). -/
def TagRecord.finished (r : TagRecord) : Bool :=
  decide (r.position = .done) && decide (r.response = .sent) && decide (r.verdict = .committed)

/-- A survivor of a host-link reset: a committed WRITE or LOCK-WRITE, WAITING or ISSUED (R39). -/
def TagRecord.survivor (r : TagRecord) : Bool :=
  r.writes && decide (r.verdict = .committed) && !decide (r.position = .done)

/-! ## Capture entries -/

/-- An entry is FREE. -/
def State.isFree (s : State) (e : EntryIx) : Bool := decide (s.entries[e] = none)

/-- The free count (R69). -/
def State.freeCount (s : State) : Nat := (List.finRange 32).countP s.isFree

/-- The lowest-numbered FREE entry (R71). -/
def State.lowestFree (s : State) : Option EntryIx := (List.finRange 32).find? s.isFree

/-- An entry is STRANDED. -/
def CaptureEntry.isStrand (c : CaptureEntry) : Bool :=
  match c.state with
  | .stranded _ _ => true
  | .filling _ _ => false
  | .captured _ => false

/-- An entry is CAPTURED. -/
def CaptureEntry.isCaptured (c : CaptureEntry) : Bool :=
  match c.state with
  | .captured _ => true
  | .filling _ _ => false
  | .stranded _ _ => false

/-- The strand sequence number of an entry, 0 when it is no strand (R169). -/
def CaptureEntry.sequence (c : CaptureEntry) : Nat :=
  match c.state with
  | .stranded q _ => q
  | .filling _ _ => 0
  | .captured _ => 0

/-- An entry with its number. -/
abbrev Numbered := EntryIx × CaptureEntry

/-- The entries that are not FREE and satisfy `f`, lowest number first. -/
def State.entriesWhere (s : State) (f : CaptureEntry → Bool) : List Numbered :=
  (List.finRange 32).filterMap fun e =>
    match s.entries[e] with
    | some c => if f c then some (e, c) else none
    | none => none

/-- The strands, lowest number first. -/
def State.strands (s : State) : List Numbered := s.entriesWhere CaptureEntry.isStrand

/-- The beats that a list of entries holds. -/
def beatsHeld (es : List Numbered) : Nat := (es.map fun ec => ec.2.beats.length).sum

/-- Inserts an entry into a list that rises by `key`. -/
def insertBy (key : CaptureEntry → Nat) (x : Numbered) : List Numbered → List Numbered
  | [] => [x]
  | y :: ys => if key x.2 ≤ key y.2 then x :: y :: ys else y :: insertBy key x ys

/-- A list of entries put in rising order of `key`. -/
def sortBy (key : CaptureEntry → Nat) (es : List Numbered) : List Numbered := es.foldr (insertBy key) []

/-! ## Reservations -/

/-- The first slot whose reservation satisfies `f`. -/
def State.slotWhere (s : State) (f : Reservation → Bool) : Option (SlotIx × Reservation) :=
  (List.finRange 4).findSome? fun k =>
    match s.slots[k] with
    | some r => if f r then some (k, r) else none
    | none => none

/-- The reservation an initiator holds, with its slot (R128). -/
def State.held (s : State) (i : Initiator) : Option (SlotIx × Reservation) :=
  s.slotWhere fun r => decide (r.initiator = i)

/-- Some reservation of another initiator than `i` covers a granule that the bytes touch on the select
(R129, R132). -/
def State.reservedAgainst (s : State) (i : Initiator) (select : Select) (bytes : List Nat) : Bool :=
  (s.slotWhere fun r =>
    !decide (r.initiator = i) && decide (r.select = select) && touchesGranule bytes r.granule).isSome

/-- The lowest-numbered free slot (R128). -/
def State.freeSlot (s : State) : Option SlotIx := (List.finRange 4).find? fun k => decide (s.slots[k] = none)

/-! ## The use count (R11) -/

/-- The live records whose region index is the index. -/
def State.recordUses (s : State) (r : RegionIx) : Nat :=
  allPairs.countP fun p => (s.tag p).any fun t => decide (t.place.map (·.region) = some r)

/-- The FILLING and CAPTURED entries whose region index is the index. -/
def State.entryUses (s : State) (r : RegionIx) : Nat :=
  (s.entriesWhere fun c => !c.isStrand && decide (c.region = r)).length

/-- The reservations whose region index is the index. -/
def State.slotUses (s : State) (r : RegionIx) : Nat :=
  (List.finRange 4).countP fun k => (s.slots[k]).any fun t => decide (t.region = r)

/-- The use count of a region index (R11). -/
def State.useCount (s : State) (r : RegionIx) : Nat := s.recordUses r + s.entryUses r + s.slotUses r

/-- The region is the draining one (R13). -/
def State.drains (s : State) (r : RegionIx) : Bool :=
  match s.apply with
  | .idle => false
  | .draining d _ => decide (d = r)

/-! ## The lines the part drives -/

/-- The number of an event kind (R173). -/
def EventKind.number : EventKind → Nat
  | .strandExpired => 1
  | .strandsDiscarded => 2
  | .strandMismatch => 3
  | .readFault => 4
  | .writeFault => 5
  | .verdictTimeout => 6
  | .verdictUnknown => 7
  | .verdictConflict => 8
  | .tagReuse => 9
  | .unmapped => 10
  | .lockBroken => 11
  | .captureExhausted => 12
  | .hostReset => 13
  | .applyDone => 14
  | .applyTimeout => 15
  | .imageAbsent => 16
  | .imageCorrupt => 17

/-- The kind is enabled in the alert mask (R176). -/
def State.enables (s : State) (k : EventKind) : Bool := s.alertMask.getLsbD (k.number - 1)

/-- ALERT: asserted while a record of an enabled kind is held or the overflow flag is set (R177). -/
def State.alert (s : State) : Bool := (s.events.any fun e => s.enables e.kind) || s.overflow

/-- The select that is asserted on the target bus, if any: the open access's (R151). -/
def State.selected (s : State) : Option Select := s.access.map (·.place.select)

/-- What the part drives on data out beside the next byte of the frame: 0x00 through the command, parameter and turnaround
bytes, then the response, then 0x00; nothing while the select is deasserted (R161, R162). DESIGN CHOICE (log entry 9):
nothing either in a frame that is ignored to its end after a power-on reset, of which R178 does not say what is driven. -/
def State.dataOut (s : State) : Option Byte :=
  match s.port with
  | .deselected => none
  | .ignored => none
  | .frame f =>
    match f.phase with
    | .command => some 0
    | .parameters => some 0
    | .turnaround => some 0
    | .response => some (f.response.getD f.sent 0)

/-- The flash select, asserted from the read's beginning until it ends (R181): in LOADING, but for a read that a failed
check of the header has ended (log entry 9). -/
def State.flashSelect (s : State) : Bool :=
  match s.boot with
  | .idle => false
  | .header => true
  | .body _ => true
  | .ended _ _ => false

/-- What the boot port sends as byte `k` of the read sequence, counted from 0, while the select is asserted: the read
command and the address (R181). From byte 4 on the image bytes come in, image byte `j` beside byte `4 + j`, and the manual
gives what is sent then no value. -/
def State.bootOut (s : State) (k : Nat) : Option Byte := if s.flashSelect then Config.flashRead[k]? else none

/-- How many image bytes have been read at each stage of the boot progress that an event reaches: none at the read's
beginning, 12 once the header has passed, and at a read that ended at its header 4 or 12 (R181). -/
def Boot.bytesRead : Boot → Nat
  | .idle => 0
  | .header => 0
  | .body _ => 12
  | .ended _ (.absent _) => 4
  | .ended _ (.corrupt _ _ _) => 12

/-! ## What a guarded read finds (R90, R94, R96 to R98) -/

/-- The held range of a strand, with the window of its region's entry (R90). -/
def State.heldRange (s : State) (c : CaptureEntry) : List Nat :=
  match c.mode with
  | .fixed => beatBytes c.size c.start.toNat
  | .step =>
    (List.range c.beats.length).flatMap fun k =>
      beatBytes c.size (foldedAddress s.regions[c.region].targetBase.toNat s.regions[c.region].span c.start.toNat
        (k * c.size.bytes))

/-- The strands on the read's select whose held range overlaps its footprint (R94). -/
def State.strandsUnder (s : State) (pl : Place) (size : BeatSize) (count : Nat) : List Numbered :=
  s.strands.filter fun ec =>
    decide (ec.2.select = pl.select) && overlap (s.heldRange ec.2) (footprint pl size count)

/-- A strand agrees with the read in beat mode, beat size and target start address (R94). -/
def agrees (pl : Place) (size : BeatSize) (c : CaptureEntry) : Bool :=
  decide (c.mode = pl.mode) && decide (c.size = size) && decide (c.start = pl.start)

/-- The strands in conflict with the read (R94). -/
def State.conflicts (s : State) (pl : Place) (size : BeatSize) (count : Nat) : List Numbered :=
  (s.strandsUnder pl size count).filter fun ec => !agrees pl size ec.2

/-- The strands compatible with the read, oldest first (R94, R96). -/
def State.compatible (s : State) (pl : Place) (size : BeatSize) (count : Nat) : List Numbered :=
  sortBy CaptureEntry.sequence ((s.strandsUnder pl size count).filter fun ec => agrees pl size ec.2)

/-- What a read takes from one strand: the entry, the strand as it stood, and the beats taken. -/
structure Taken where
  entry : EntryIx
  strand : CaptureEntry
  beats : List Word
  deriving DecidableEq, Repr

/-- The read would take every beat the strand holds (R69). -/
def Taken.empties (t : Taken) : Bool := decide (t.strand.beats.length ≤ t.beats.length)

/-- Takes up to `need` beats from the fronts of the strands in turn (R97). -/
def takeFrom (need : Nat) : List Numbered → List Taken
  | [] => []
  | (e, c) :: rest =>
    if need = 0 then []
    else ⟨e, c, c.beats.take need⟩ :: takeFrom (need - c.beats.length) rest

/-- What the read consumes: in FIXED mode from the compatible strands in turn, in STEP mode from the oldest
alone (R97, R98). -/
def State.consumption (s : State) (pl : Place) (size : BeatSize) (count : Nat) : List Taken :=
  match pl.mode with
  | .fixed => takeFrom count (s.compatible pl size count)
  | .step => takeFrom count ((s.compatible pl size count).take 1)

/-- The beats consumed, in the order taken (R99). -/
def takenBeats (ts : List Taken) : List Word := ts.flatMap (·.beats)

/-- The effective free count of a read (R69). -/
def State.effectiveFree (s : State) (pl : Place) (size : BeatSize) (count : Nat) : Nat :=
  s.freeCount + (s.consumption pl size count).countP Taken.empties

/-! ## Eligibility (R58 to R63) -/

/-- The verdict condition (R59). -/
def verdictOk (r : TagRecord) (pl : Place) : Bool :=
  decide (r.verdict = .committed) ||
    match r.kind with
    | .read => !decide (pl.cls = .hold)
    | .lockRead => decide (pl.cls = .pass)
    | .write => false
    | .lockWrite => false
    | .unlock => false

/-- An older record of an ordered kind of the record's initiator is WAITING (R60). -/
def State.olderWaiting (s : State) (p : Pair) (r : TagRecord) : Bool :=
  s.anyRecord p.initiator fun o => decide (o.order < r.order) && o.ordered && decide (o.position = .waiting)

/-- An older WRITE or LOCK-WRITE of the record's initiator, WAITING or ISSUED, overlaps its footprint (R61). -/
def State.olderOverlap (s : State) (p : Pair) (r : TagRecord) (pl : Place) : Bool :=
  s.anyRecord p.initiator fun o =>
    decide (o.order < r.order) && o.writes && !decide (o.position = .done) &&
      match o.place with
      | some q => decide (q.select = pl.select) && overlap (footprint q o.size o.count) (footprint pl r.size r.count)
      | none => false

/-- The order condition (R60, R61). -/
def State.orderOk (s : State) (p : Pair) (r : TagRecord) (pl : Place) : Bool :=
  if r.ordered then !s.olderWaiting p r else !s.olderOverlap p r pl

/-- The reservation condition (R62). -/
def State.reservationOk (s : State) (p : Pair) (r : TagRecord) (pl : Place) : Bool :=
  !s.reservedAgainst p.initiator pl.select (footprint pl r.size r.count)

/-- The capture-entry condition (R63, R70). -/
def State.captureOk (s : State) (r : TagRecord) (pl : Place) : Bool :=
  !r.guarded pl || !(s.conflicts pl r.size r.count).isEmpty ||
    match r.verdict with
    | .none => decide (Config.speculativeNeed ≤ s.effectiveFree pl r.size r.count)
    | .committed =>
      decide (r.count ≤ (takenBeats (s.consumption pl r.size r.count)).length) ||
        decide (Config.committedNeed ≤ s.effectiveFree pl r.size r.count)

/-- The record is WAITING, no UNLOCK, and meets the first three conditions of R58. -/
def State.candidate (s : State) (p : Pair) (r : TagRecord) (pl : Place) : Bool :=
  decide (r.position = .waiting) && !decide (r.kind = .unlock) && verdictOk r pl && s.orderOk p r pl &&
    s.reservationOk p r pl

/-- The pair's record is eligible (R58). -/
def State.eligible (s : State) (p : Pair) : Bool :=
  match s.tag p with
  | some r =>
    match r.place with
    | some pl => s.candidate p r pl && s.captureOk r pl
    | none => false
  | none => false

/-- The pair's record is a committed guarded read that fails the capture-entry condition alone (R82). -/
def State.stalled (s : State) (p : Pair) : Bool :=
  match s.tag p with
  | some r =>
    match r.place with
    | some pl => decide (r.verdict = .committed) && s.candidate p r pl && !s.captureOk r pl
    | none => false
  | none => false

/-! ## The grant order (R147) -/

/-- The initiators in turn from `i`, wrapping from 7 to 0. -/
def turnFrom (i : Initiator) : List Initiator := (List.finRange 8).map (i + ·)

/-- The order number of a live pair's record. -/
def State.orderOf (s : State) (p : Pair) : Nat :=
  match s.tag p with
  | some r => r.order
  | none => 0

/-- Of a list of live pairs the one whose record has the lowest order number. -/
def State.oldestOf (s : State) : List Pair → Option Pair
  | [] => none
  | p :: ps =>
    match s.oldestOf ps with
    | none => some p
    | some q => if s.orderOf p ≤ s.orderOf q then some p else some q

/-- Among the pairs that satisfy `f`, the one that the grant order reaches first: the first initiator from the
pointer on that has one, and of that initiator the oldest. -/
def State.firstInTurn (s : State) (f : Pair → Bool) : Option Pair :=
  (turnFrom s.pointer).findSome? fun i => s.oldestOf ((pairsOf i).filter f)

/-- The UNLOCK of an initiator that may be performed: COMMITTED, WAITING, with no older ordered record of its
initiator WAITING (R64). -/
def State.readyUnlock (s : State) (i : Initiator) : Option Pair :=
  (pairsOf i).find? fun p =>
    (s.tag p).any fun r =>
      decide (r.kind = .unlock) && decide (r.verdict = .committed) && decide (r.position = .waiting) &&
        !s.olderWaiting p r

end Sys2Proof.Machine
end

