-- ==== Sys2Proof/Machine/Ops.lean ====
section
/-! DEFINITION. The changes the part's rules are made of: to one record, one entry, one slot; a response, an
event, a strobe; stranding, release, removal, the ends of an access, discard, a region change, a broken lock; and
`settle`, what the tables bring about at the end of an event. -/

namespace Sys2Proof.Machine

/-! ## Single places -/

/-- Makes a pair's record live with these fields, or free. -/
def State.setTag (s : State) (p : Pair) (r : Option TagRecord) : State :=
  { s with tags := s.tags.set p.initiator (s.tags[p.initiator].set p.tag r) }

/-- Makes a capture entry hold these fields, or FREE. -/
def State.setEntry (s : State) (e : EntryIx) (c : Option CaptureEntry) : State :=
  { s with entries := s.entries.set e c }

/-- Makes a slot hold a reservation, or free. -/
def State.setSlot (s : State) (k : SlotIx) (r : Option Reservation) : State :=
  { s with slots := s.slots.set k r }

/-- Sets or clears an initiator's lock-lost flag (R130). -/
def State.setLockLost (s : State) (i : Initiator) (b : Bool) : State :=
  { s with lockLost := s.lockLost.set i b }

/-- Opens, changes or closes the access. -/
def State.setAccess (s : State) (a : Option Access) : State := { s with access := a }

/-- Sends a response on the host link (R21). -/
def State.respond (s : State) (r : Response) : State := { s with responses := s.responses ++ [r] }

/-- Offers an event to the queue, with the timebase counter as its timestamp: stored at the young end, or refused
with the overflow flag set when the queue holds 16 (R171, R173). -/
def State.raise (s : State) (e : EventRecord) : State :=
  { s with
    events := if s.events.length < Config.queueDepth then s.events ++ [{ e with timestamp := s.timebase }] else s.events
    overflow := s.overflow || !decide (s.events.length < Config.queueDepth) }

/-- A count field of an event (R173). -/
def count16 (n : Nat) : BitVec 16 := BitVec.ofNat 16 n

/-- The tag field of an event (R173). -/
def tagField (t : Tag) : Byte := BitVec.ofNat 8 t.val

/-- A target address as an event's target address field (R173). -/
def addressField (a : TAddr) : Word := a.setWidth 32

/-- An event that names a record's pair, region index, select and target start address, as STRAND_MISMATCH,
READ_FAULT, WRITE_FAULT, VERDICT_TIMEOUT and CAPTURE_EXHAUSTED do (R173). -/
def recordEvent (kind : EventKind) (p : Pair) (pl : Place) (a b : Nat) : EventRecord :=
  { kind := kind, initiator := p.initiator, select := pl.select, tag := tagField p.tag, region := pl.region,
    address := addressField pl.start, countA := count16 a, countB := count16 b }

/-! ## Capture entries and strands -/

/-- An entry becomes STRANDED: unbound, with the next strand sequence number and a fresh strand timer, none
for a window of 0 (R77, R91, R102). -/
def strandEntry (e : EntryIx) (s : State) : State :=
  match s.entries[e] with
  | none => s
  | some c =>
    { s.setEntry e (some { c with
        state := .stranded s.strandCounter (if c.window = 0 then none else some c.window.toNat) }) with
      strandCounter := s.strandCounter + 1 }

/-- Several entries become STRANDED in one event, in the order in which they were allocated (R92). -/
def strandAll (es : List Numbered) (s : State) : State :=
  (sortBy CaptureEntry.allocation es).foldl (fun s ec => strandEntry ec.1 s) s

/-- The CAPTURED entries bound to pairs that satisfy `f`. -/
def State.capturedBy (s : State) (f : Pair → Bool) : List Numbered :=
  s.entriesWhere fun c =>
    match c.state with
    | .captured p => f p
    | .filling _ _ => false
    | .stranded _ _ => false

/-- A FILLING entry loses its bound tag (R79). -/
def unbindEntry (e : EntryIx) (s : State) : State :=
  match s.entries[e] with
  | none => s
  | some c =>
    match c.state with
    | .filling _ n => s.setEntry e (some { c with state := .filling none n })
    | .captured _ => s
    | .stranded _ _ => s

/-- A target beat's value is appended to an entry's beats held (R73). -/
def appendBeat (e : EntryIx) (v : Word) (s : State) : State :=
  match s.entries[e] with
  | none => s
  | some c => s.setEntry e (some { c with beats := c.beats ++ [v] })

/-- The fill of an unbound entry is over: a strand when it holds beats, FREE when it holds none (R79). -/
def endUnbound (e : EntryIx) (s : State) : State :=
  match s.entries[e] with
  | none => s
  | some c => if c.beats = [] then s.setEntry e none else strandEntry e s

/-- The beats an entry holds. -/
def State.beatsOf (s : State) (e : EntryIx) : List Word :=
  match s.entries[e] with
  | some c => c.beats
  | none => []

/-! ## Release (R35) -/

/-- The reservation that names the pair's record as its lock-read record. -/
def State.namedByLockRead (s : State) (p : Pair) : Option (SlotIx × Reservation) :=
  s.slotWhere fun r => decide (r.initiator = p.initiator) && decide (r.lockRead = some p.tag)

/-- The WRITING reservation that names the pair's record as its lock-write record. -/
def State.namedByLockWrite (s : State) (p : Pair) : Option (SlotIx × Reservation) :=
  s.slotWhere fun r => decide (r.initiator = p.initiator) && decide (r.state = .writing p.tag)

/-- Clears the lock-read record of the reservation that names the pair's record (R133). -/
def clearLockRead (p : Pair) (s : State) : State :=
  match s.namedByLockRead p with
  | some (k, r) => s.setSlot k (some { r with lockRead := none })
  | none => s

/-- Frees the WRITING reservation that names the pair's record (R138, R140). -/
def freeWriting (p : Pair) (s : State) : State :=
  match s.namedByLockWrite p with
  | some (k, _) => s.setSlot k none
  | none => s

/-- Makes the entry of a record FREE, if it has one (R76). -/
def freeEntryOf (r : TagRecord) (s : State) : State :=
  match r.entry with
  | some e => s.setEntry e none
  | none => s

/-- Releases a record: its pair is free, its capture entry is freed, and a reservation that names it as its
lock-read record no longer does (R35, R74, R76, R133). -/
def releaseRecord (p : Pair) (r : TagRecord) (s : State) : State :=
  clearLockRead p (freeEntryOf r (s.setTag p none))

/-- Releases the pair's record if it is DONE, SENT and COMMITTED (R35). -/
def releaseIfFinished (p : Pair) (s : State) : State :=
  match s.tag p with
  | some r => if r.finished then releaseRecord p r s else s
  | none => s

/-! ## Removal (R46, R79, R139, R140, R156) -/

/-- What the removal of a pair's record does to a read access open for it: the entry is unbound; the access ends at
once when no beat is in flight, and else when that beat ends (R156). -/
def endAccessOf (p : Pair) (s : State) : State :=
  match s.access with
  | none => s
  | some a =>
    if a.live = true ∧ a.pair = p ∧ a.kind = .read then
      match a.flight with
      | some _ =>
        match a.entry with
        | some e => unbindEntry e (s.setAccess (some { a with live := false }))
        | none => s.setAccess (some { a with live := false })
      | none =>
        match a.entry with
        | some e => endUnbound e (s.setAccess none)
        | none => s.setAccess none
    else s

/-- A LOCK-WRITE is ended without write: DONE, its data discarded, answered ACK LOCK_LOST, and released if it is
COMMITTED (R139). -/
def endWithoutWrite (p : Pair) (s : State) : State :=
  match s.tag p with
  | none => s
  | some r =>
    releaseIfFinished p
      ((s.setTag p (some { r with position := .done, data := [], response := .sent })).respond (.ack p .lockLost))

/-- What the removal of a LOCK-READ does to the reservation that names it (R139). -/
def lockReadRemoved (p : Pair) (s : State) : State :=
  match s.namedByLockRead p with
  | none => s
  | some (k, r) =>
    match r.state with
    | .reserved _ => s.setSlot k none
    | .writing t =>
      if (s.tag ⟨p.initiator, t⟩).any fun w => decide (w.position = .issued) then
        s.setSlot k (some { r with lockRead := none })
      else endWithoutWrite ⟨p.initiator, t⟩ (s.setSlot k none)

/-- What the removal of a record does to the lock table (R139, R140). -/
def lockTableRemoval (p : Pair) (r : TagRecord) (s : State) : State :=
  match r.kind with
  | .lockRead => lockReadRemoved p s
  | .lockWrite => if r.position = .waiting then freeWriting p s else s
  | .read => s
  | .write => s
  | .unlock => s

/-- Removes one record, its CAPTURED entry being dealt with already. -/
def dropRecord (p : Pair) (s : State) : State :=
  match s.tag p with
  | none => s
  | some r => lockTableRemoval p r (endAccessOf p (s.setTag p none))

/-- Removes the records of the pairs in one event as R46 lays down: their CAPTURED entries become strands in
allocation order (R92), and the records go, LOCK-WRITEs first, so that a LOCK-WRITE removed beside its LOCK-READ
is not ended without write (R139). -/
def removeRecords (ps : List Pair) (s : State) : State :=
  let isLockWrite : Pair → Bool := fun p => (s.tag p).any fun r => decide (r.kind = .lockWrite)
  (ps.filter isLockWrite ++ ps.filter fun p => !isLockWrite p).foldl (fun s p => dropRecord p s)
    (strandAll (s.capturedBy fun p => ps.contains p) s)

/-! ## The end of a target part -/

/-- The status of the DATA of a read that obtained every beat: LOCK_LOST for a LOCK-READ with its mark set
(R36). -/
def dataStatus (r : TagRecord) : Status := if r.kind = .lockRead ∧ r.mark = true then .lockLost else .ok

/-- The end of a live read's target part: DATA from its entry or read buffer, DONE and SENT; a committed read is
released and its entry freed; an uncommitted one's entry becomes CAPTURED, or FREE when it holds no beats
(R74, R75, R152, R153). `failure` is the status of the beat that failed, if one did. -/
def endRead (a : Access) (failure : Option Status) (s : State) : State :=
  match s.tag a.pair with
  | none => s
  | some r =>
    let beats := match a.entry with
      | some e => s.beatsOf e
      | none => a.buffer
    let done := { r with position := .done, response := .sent }
    let s := s.respond (.data a.pair (failure.getD (dataStatus r)) a.first beats)
    match r.verdict, a.entry with
    | .committed, _ => releaseRecord a.pair done s
    | .none, none => s.setTag a.pair (some done)
    | .none, some e =>
      match s.entries[e] with
      | none => s.setTag a.pair (some done)
      | some c =>
        if beats = [] then (s.setEntry e none).setTag a.pair (some { done with entry := none })
        else (s.setEntry e (some { c with state := .captured a.pair })).setTag a.pair (some done)

/-- The end of a write's target part: a LOCK-WRITE's reservation is freed and its ACK sent unless its response is
SENT already, as a survivor's is; the record becomes DONE and is released (R119, R121, R123, R138). -/
def endWrite (a : Access) (status : Status) (s : State) : State :=
  match s.tag a.pair with
  | none => s
  | some r =>
    let done := { r with position := .done, response := .sent }
    let s := if r.kind = .lockWrite then freeWriting a.pair s else s
    let s := if r.kind = .lockWrite ∧ r.response = .pending then s.respond (.ack a.pair status) else s
    releaseIfFinished a.pair (s.setTag a.pair (some done))

/-- The end of the beat in flight of a read whose record has been removed: a CAPTURE or HOLD read's beat, if it was
obtained, joins the entry, which becomes a strand or FREE; a PASS read's beats are discarded (R79, R156). -/
def endRemoved (a : Access) (value : Option Word) (s : State) : State :=
  match a.entry with
  | none => s
  | some e =>
    match value with
    | some v => endUnbound e (appendBeat e v s)
    | none => endUnbound e s

/-! ## Discard and region changes -/

/-- Makes the entries FREE. -/
def freeEntries (es : List Numbered) (s : State) : State := es.foldl (fun s ec => s.setEntry ec.1 none) s

/-- Discards strands, and raises one STRANDS_DISCARDED if there was at least one (R105). The event is given
without its counts. -/
def discard (es : List Numbered) (event : EventRecord) (s : State) : State :=
  if es = [] then s
  else (freeEntries es s).raise { event with countA := count16 es.length, countB := count16 (beatsHeld es) }

/-- A change is made to a region index: the entry takes the staging record's contents, and every strand made
through the index is discarded with cause 0 (R12, R105). -/
def makeChange (r : RegionIx) (s : State) : State :=
  discard (s.entriesWhere fun c => c.isStrand && decide (c.region = r)) { kind := .strandsDiscarded, region := r }
    { s with regions := s.regions.set r s.staging }

/-! ## Locks -/

/-- A RESERVED reservation is broken: freed, its holder's lock-lost flag set, its lock-read record, if live, marked,
and LOCK_BROKEN raised with the cause in count A (R135, R142). -/
def breakReservation (k : SlotIx) (r : Reservation) (cause : Nat) (s : State) : State :=
  let s := (s.setSlot k none).setLockLost r.initiator true
  let s := match r.lockRead with
    | none => s
    | some t =>
      match s.tag ⟨r.initiator, t⟩ with
      | none => s
      | some w => s.setTag ⟨r.initiator, t⟩ (some { w with mark := true })
  s.raise
    { kind := .lockBroken, initiator := r.initiator, select := r.select, tag := tagField (r.lockRead.getD 0)
      region := r.region, address := addressField r.granule, countA := count16 cause
      countB := count16 r.lockRead.isSome.toNat }

/-- What performing an UNLOCK does to its initiator's reservation and flag, and the status of its ACK (R141). -/
def unlockEffect (i : Initiator) (s : State) : Status × State :=
  match s.held i with
  | some (k, r) =>
    match r.state with
    | .reserved _ => (.ok, s.setSlot k none)
    | .writing _ => (.ok, s)
  | none => if s.lockLost[i] then (.lockLost, s.setLockLost i false) else (.ok, s)

/-- Performs an UNLOCK: its effect on the lock table, its ACK, DONE and SENT, and its release (R141). -/
def performUnlock (p : Pair) (s : State) : State :=
  match s.tag p with
  | none => s
  | some r =>
    let u := unlockEffect p.initiator s
    releaseIfFinished p
      ((u.2.setTag p (some { r with position := .done, response := .sent })).respond (.ack p u.1))

/-! ## What the tables bring about at the end of an event -/

/-- Performs the ready UNLOCKs of an initiator one after the other, at most `n` (R64, R141). -/
def performReady (i : Initiator) : Nat → State → State
  | 0, s => s
  | n + 1, s =>
    match s.readyUnlock i with
    | none => s
    | some p => performReady i n (performUnlock p s)

/-- Performs every ready UNLOCK: an initiator has at most 16 records (R64, R141). -/
def performUnlocks (s : State) : State := (List.finRange 8).foldl (fun s i => performReady i 16 s) s

/-- Completes the drain when the draining region's use count is zero: the change is made, the drain timer stops,
and APPLY_DONE is raised after any STRANDS_DISCARDED (R14). -/
def completeDrain (s : State) : State :=
  match s.apply with
  | .idle => s
  | .draining r _ =>
    if s.useCount r = 0 then (makeChange r { s with apply := .idle }).raise { kind := .applyDone, region := r } else s

/-- The CAPTURE_EXHAUSTED record for a pair (R82). -/
def exhaustedEvent (s : State) (p : Pair) : EventRecord :=
  match (s.tag p).bind (·.place) with
  | some pl =>
    recordEvent .captureExhausted p pl s.strands.length (s.entriesWhere CaptureEntry.isCaptured).length
  | none => { kind := .captureExhausted, initiator := p.initiator, tag := tagField p.tag }

/-- Raises CAPTURE_EXHAUSTED and sets the latch when a read comes to be stalled that was not stalled before the event
and the latch is clear; of several, it names the first in the grant order (R82). -/
def latchSet (before s : State) : State :=
  if s.latch then s
  else
    match s.firstInTurn fun p => s.stalled p && !before.stalled p with
    | none => s
    | some p => { s.raise (exhaustedEvent s p) with latch := true }

/-- Clears the latch when the free count has risen to 4 or more in the event (R83). -/
def latchClear (before s : State) : State :=
  if before.freeCount < Config.rearmLevel ∧ Config.rearmLevel ≤ s.freeCount then { s with latch := false } else s

/-- The exhaustion latch follows an event that began at `before` and has led to `s` (R82, R83). -/
def followLatch (before s : State) : State := latchClear before (latchSet before s)

/-- The rest of an event that began at `before` and whose own effects have led to `s`: UNLOCKs that have become ready
are performed, a drain whose last use has gone is completed, and the exhaustion latch follows the free count
(R14, R64, R82, R83, R141, R172). -/
def settle (before s : State) : State := followLatch before (completeDrain (performUnlocks s))

end Sys2Proof.Machine
end

