-- ==== Sys2Proof/Machine/Acceptance.lean ====
section
/-! DEFINITION. READ, WRITE, LOCK-READ, LOCK-WRITE and UNLOCK: the acceptance checks in their order and the tag
record a request leaves (sections 1.3, 2.4, 2.5, 6.1, 7.2 and 7.4). -/

namespace Sys2Proof.Machine

/-- The size of a request's beats. -/
def requestSize (q : Request) : BeatSize := beatSizeOf q.sizeCode

/-- A request is malformed (R28). -/
def malformed (kind : Kind) (q : Request) : Bool :=
  match kind with
  | .unlock => !q.slots.isEmpty
  | .read => decide (q.sizeCode = 3) || decide (q.count.toNat = 0 ∨ 8 < q.count.toNat) || !q.slots.isEmpty
  | .write =>
    decide (q.sizeCode = 3) || decide (q.count.toNat = 0 ∨ 8 < q.count.toNat) ||
      !decide (q.slots.length = q.count.toNat)
  | .lockRead => decide (q.sizeCode = 3) || !decide (q.count.toNat = 1) || !q.slots.isEmpty
  | .lockWrite => decide (q.sizeCode = 3) || !decide (q.count.toNat = 1) || !decide (q.slots.length = q.count.toNat)

/-- A STEP burst whose last byte lies outside the host window of its entry (R7). -/
def splits (e : RegionEntry) (q : Request) : Bool :=
  decide (modeOf e.mode = .step) &&
    !e.covers (q.address.toNat + q.count.toNat * (requestSize q).bytes - 1)

/-- The record that joins the tag table takes the next order number (R33). -/
def addRecord (p : Pair) (r : TagRecord) (s : State) : State :=
  { s.setTag p (some { r with order := s.acceptance[p.initiator] }) with
    acceptance := s.acceptance.set p.initiator (s.acceptance[p.initiator] + 1) }

/-- The error record of a speculative request (R31). -/
def errorRecord (kind : Kind) (q : Request) : TagRecord :=
  { kind := kind, place := none, size := requestSize q, count := q.count.toNat, speculative := true, verdict := .none
    position := .done, response := .sent, order := 0, data := [], entry := none, timer := none, mark := false }

/-- A request refused with ERROR at step 3, 4 or 6: the response, and for a speculative request an error record
(R31). -/
def refuse (kind : Kind) (q : Request) (status : Status) (s : State) : State :=
  let s := s.respond (.error q.pair status)
  if q.speculative then addRecord q.pair (errorRecord kind q) s else s

/-- The verdict timer a record starts with (R51). -/
def verdictTimer (q : Request) (place : Option Place) : Option Nat :=
  match place with
  | none => none
  | some pl => if q.speculative = true ∧ pl.verdictLimit ≠ 0 then some pl.verdictLimit.toNat else none

/-- The record of a taken request (R30). -/
def takenRecord (kind : Kind) (q : Request) (place : Option Place) : TagRecord :=
  { kind := kind
    place := place
    size := requestSize q
    count := q.count.toNat
    speculative := q.speculative
    verdict := if q.speculative then .none else .committed
    position := .waiting
    response := if kind = .write then .sent else .pending
    order := 0
    data := if kind = .write ∨ kind = .lockWrite then q.slots.map (beatValue (requestSize q)) else []
    entry := none
    timer := verdictTimer q place
    mark := false }

/-- A request is taken (step 7): its record joins, and a WRITE is answered ACK OK at once (R30, R111). -/
def take (kind : Kind) (q : Request) (place : Option Place) (s : State) : State :=
  let s := addRecord q.pair (takenRecord kind q place) s
  if kind = .write then s.respond (.ack q.pair .ok) else s

/-- Step 6 for a READ or WRITE (R29, R132). -/
def plainLockCheck (kind : Kind) (q : Request) (pl : Place) (s : State) : State :=
  if s.reservedAgainst q.initiator pl.select (footprint pl (requestSize q) q.count.toNat) then
    s.respond (.retry q.pair .reserved)
  else take kind q (some pl) s

/-- Another initiator's reservation covers the granule. -/
def State.granuleTaken (s : State) (i : Initiator) (select : Select) (granule : TAddr) : Bool :=
  (s.slotWhere fun r => !decide (r.initiator = i) && decide (r.select = select) && decide (r.granule = granule)).isSome

/-- Step 6 for a LOCK-READ, and the reservation it takes (R131). -/
def lockReadCheck (q : Request) (permitted : Bool) (limit : BitVec 10) (pl : Place) (s : State) : State :=
  if permitted = false then refuse .lockRead q .lockDenied s
  else if (s.held q.initiator).isSome then refuse .lockRead q .lockDenied s
  else if s.granuleTaken q.initiator pl.select (granuleOf pl.start) then s.respond (.retry q.pair .reserved)
  else
    match s.freeSlot with
    | none => s.respond (.retry q.pair .locksFull)
    | some k =>
      take .lockRead q (some pl)
        ((s.setSlot k (some { initiator := q.initiator, select := pl.select, granule := granuleOf pl.start
                              region := pl.region, state := .reserved limit.toNat, lockRead := some q.tag })).setLockLost
          q.initiator false)

/-- Step 6 for a LOCK-WRITE, and what it does to its reservation (R136). -/
def lockWriteCheck (q : Request) (pl : Place) (s : State) : State :=
  match s.held q.initiator with
  | none => refuse .lockWrite q .lockLost (s.setLockLost q.initiator false)
  | some (k, r) =>
    match r.state with
    | .writing _ => refuse .lockWrite q .lockDenied s
    | .reserved _ =>
      if pl.select = r.select ∧ granuleOf pl.start = r.granule then
        take .lockWrite q (some pl) (s.setSlot k (some { r with state := .writing q.tag }))
      else refuse .lockWrite q .lockDenied s

/-- Steps 4 to 7 for the kinds that use the address (R25): the address checks, the draining check, and the lock
checks of the kind. -/
def addressed (kind : Kind) (q : Request) (s : State) : State :=
  match matchRegion s.regions q.address with
  | none =>
    (refuse kind q .unmapped s).raise
      { kind := .unmapped, initiator := q.initiator, tag := tagField q.tag, address := q.address }
  | some (r, c) =>
    let e := s.regions[r]
    let pl := placeOf e r c kind q.address
    if q.address.toNat % (requestSize q).bytes ≠ 0 then refuse kind q .misaligned s
    else if splits e q then refuse kind q .splitRegion s
    else if s.drains r then s.respond (.retry q.pair .draining)
    else
      match kind with
      | .read => plainLockCheck .read q pl s
      | .write => plainLockCheck .write q pl s
      | .lockRead => lockReadCheck q e.lock e.lockLimit pl s
      | .lockWrite => lockWriteCheck q pl s
      | .unlock => take .unlock q none s

/-- The acceptance of a request, taken whole: the checks of R25 in their order, the first that fails deciding. -/
def accept (kind : Kind) (q : Request) (s : State) : State :=
  if s.operating ≠ .running then s.respond (.retry q.pair .notRunning)
  else if (s.tag q.pair).isSome then
    s.raise { kind := .tagReuse, initiator := q.initiator, tag := tagField q.tag }
  else if malformed kind q then refuse kind q .badRequest s
  else
    match kind with
    | .unlock => take .unlock q none s
    | .read => addressed .read q s
    | .write => addressed .write q s
    | .lockRead => addressed .lockRead q s
    | .lockWrite => addressed .lockWrite q s

/-- READ (R25 to R31). -/
def execRead (q : Request) (s : State) : Answer := .next (settle s (accept .read q s))

/-- WRITE (R110, R111): ACK OK as it is taken. -/
def execWrite (q : Request) (s : State) : Answer := .next (settle s (accept .write q s))

/-- LOCK-READ (R131): as it is taken it takes the lowest free slot. -/
def execLockRead (q : Request) (s : State) : Answer := .next (settle s (accept .lockRead q s))

/-- LOCK-WRITE (R136): as it is taken the reservation moves to WRITING. -/
def execLockWrite (q : Request) (s : State) : Answer := .next (settle s (accept .lockWrite q s))

/-- UNLOCK (R25): its record has no region index; a non-speculative one with no older ordered record WAITING is
performed in the same event (R141). -/
def execUnlock (q : Request) (s : State) : Answer := .next (settle s (accept .unlock q s))

end Sys2Proof.Machine
end

