-- ==== Sys2Proof/Machine/Management.lean ====
section
/-! DEFINITION. The management port (chapter 9): frames, the command set with its parameter checks, the record
layouts, the event queue's commands and the alert mask. -/

namespace Sys2Proof.Machine

/-! ## Taking a command -/

/-- The status codes of the first response byte (R163). -/
inductive MgmtStatus where
  | ok
  | pending
  | busy
  | invalid
  | empty
  | unknown
  deriving DecidableEq, Repr

/-- The code of a status (R163). -/
def MgmtStatus.code : MgmtStatus → Byte
  | .ok => 0x00
  | .pending => 0x01
  | .busy => 0x02
  | .invalid => 0x03
  | .empty => 0x04
  | .unknown => 0x05

/-- What a command answers and does: its status, the payload that follows an OK, and the state after it. -/
structure Reply where
  status : MgmtStatus
  payload : List Byte
  state : State
  deriving DecidableEq, Repr

/-- The response bytes of a reply: the status byte, then the payload when the status is OK (R163). -/
def Reply.bytes (r : Reply) : List Byte :=
  r.status.code :: if r.status = .ok then r.payload else []

/-- The bytes of its command that a frame has received in its parameter phase (R161). -/
def Frame.received (f : Frame) : List Byte := f.code.toList ++ f.params

/-- The command of these bytes may be taken in the frame: none of its bytes has been received, or some of them and no
others (R161, R162). -/
def Frame.awaits (f : Frame) (bytes : List Byte) : Bool :=
  match f.phase with
  | .command => true
  | .parameters => f.received.isPrefixOf bytes
  | .turnaround => false
  | .response => false

/-- The end of a command's last parameter byte in the frame in progress: the command is taken, acts, and its response
is built (R162). Nothing is taken outside a frame or after the frame's one command (R161, R162), nor in a frame that has
received bytes of another command (log entry 3). -/
def takeCommand (code : Byte) (params : List Byte) (act : State → Reply) (s : State) : State :=
  match s.port with
  | .deselected => s
  | .ignored => s
  | .frame f =>
    if f.awaits (code :: params) then
      { (act s).state with
        port := .frame
          { phase := .turnaround, code := some code, params := params, response := (act s).bytes, sent := 0 } }
    else s

/-- Every defined command but GET STATUS is answered BUSY in LOADING (R164). -/
def unlessLoading (act : State → Reply) (s : State) : Reply :=
  if s.operating = .loading then ⟨.busy, [], s⟩ else act s

/-- A command that only reads. -/
def answer (payload : State → List Byte) (s : State) : Reply := ⟨.ok, payload s, s⟩

/-! ## Codes and layouts (R165 to R170, R173) -/

def OperatingState.code : OperatingState → Nat
  | .loading => 0
  | .held => 1
  | .running => 2

def ImageResult.code : ImageResult → Nat
  | .loading => 0
  | .valid => 1
  | .absent => 2
  | .corrupt => 3
  | .notRead => 4

def Kind.code : Kind → Nat
  | .read => 0
  | .write => 1
  | .lockRead => 2
  | .lockWrite => 3
  | .unlock => 4

def Position.code : Position → Nat
  | .waiting => 0
  | .issued => 1
  | .done => 2

def RegionClass.code : RegionClass → Nat
  | .pass => 1
  | .hold => 2
  | .capture => 3

def BeatMode.code : BeatMode → Nat
  | .fixed => 0
  | .step => 1

/-- One byte of a record. -/
def byte (n : Nat) : Byte := BitVec.ofNat 8 n

/-- The live records of an initiator (R167). -/
def State.liveOf (s : State) (i : Initiator) : Nat := (pairsOf i).countP fun p => (s.tag p).isSome

/-- The reservations in use (R167). -/
def State.slotsInUse (s : State) : Nat := (List.finRange 4).countP fun k => (s.slots[k]).isSome

/-- The 22-byte status record (R167). -/
def statusRecord (s : State) : List Byte :=
  [ byte s.operating.code, byte s.image.code,
    byte (match s.apply with
      | .idle => 0
      | .draining r _ => 1 + 16 * r.val),
    byte s.freeCount, byte s.strands.length ] ++
  leBytes 2 (beatsHeld s.strands) ++ (List.finRange 8).map (fun i => byte (s.liveOf i)) ++
  [ byte s.slotsInUse, byte s.events.length,
    byte (s.overflow.toNat + 2 * s.latch.toNat + 4 * s.alert.toNat) ] ++ leBytes 4 s.timebase.toNat

/-- Eight 4-byte slots of beats (R168, R169). -/
def beatSlots (beats : List Word) : List Byte :=
  (List.range 8).flatMap fun k => leBytes 4 (beats.getD k 0).toNat

/-- The 48 bytes of a live tag record (R168). -/
def liveTagRecord (r : TagRecord) : List Byte :=
  [ 1, byte r.kind.code,
    byte (r.speculative.toNat + 2 * (decide (r.verdict = .committed)).toNat + 4 * r.position.code +
      16 * (decide (r.response = .sent)).toNat + 32 * r.mark.toNat + 64 * r.place.isSome.toNat +
      128 * r.entry.isSome.toNat),
    byte (match r.place with
      | some pl => pl.region.val + 16 * pl.select.val + 64 * pl.cls.code
      | none => 0),
    byte (r.size.bytes + 8 * (match r.place with
      | some pl => pl.mode.code
      | none => 0) + 16 * r.count) ] ++
  leBytes 4 (match r.place with
    | some pl => pl.start.toNat
    | none => 0) ++
  leBytes 4 r.order ++
  [byte (match r.entry with
    | some e => e.val
    | none => 0)] ++
  leBytes 2 (match r.timer with
    | some t => t
    | none => 0xFFFF) ++
  beatSlots r.data

/-- The tag record of a pair; all zero when the pair is free (R168). -/
def tagRecordBytes (s : State) (p : Pair) : List Byte :=
  match s.tag p with
  | some r => liveTagRecord r
  | none => List.replicate 48 0

/-- The state code and bound bit of a capture entry (R169). -/
def EntryState.code : EntryState → Nat
  | .filling (some _) _ => 1 + 128
  | .filling none _ => 1
  | .captured _ => 2 + 128
  | .stranded _ _ => 3

/-- The pair an entry is bound to. -/
def EntryState.boundTo : EntryState → Option Pair
  | .filling b _ => b
  | .captured b => some b
  | .stranded _ _ => none

/-- The beats a FILLING entry has requested, 0 otherwise (R169). -/
def EntryState.requestedBeats : EntryState → Nat
  | .filling _ n => n
  | .captured _ => 0
  | .stranded _ _ => 0

/-- The strand timer field of an entry: 0xFFFFFF without a timer (R169). -/
def EntryState.timerField : EntryState → Nat
  | .stranded _ (some t) => t
  | .stranded _ none => 0xFFFFFF
  | .filling _ _ => 0xFFFFFF
  | .captured _ => 0xFFFFFF

/-- The 48 bytes of an entry that is not FREE (R169). -/
def usedEntryRecord (c : CaptureEntry) : List Byte :=
  [ byte c.state.code,
    byte (match c.state.boundTo with
      | some p => p.initiator.val + 16 * p.tag.val
      | none => 0),
    byte (c.region.val + 16 * c.select.val + 64 * c.mode.code),
    byte (c.size.bytes + 16 * c.beats.length) ] ++
  leBytes 4 c.start.toNat ++ [byte c.state.requestedBeats] ++ leBytes 4 c.sequence ++
  leBytes 3 c.state.timerField ++ beatSlots c.beats

/-- The capture record of an entry; all zero when it is FREE (R169). -/
def entryRecordBytes (s : State) (e : EntryIx) : List Byte :=
  match s.entries[e] with
  | some c => usedEntryRecord c
  | none => List.replicate 48 0

/-- A record named in a slot record: its tag and the present bit (R170). -/
def namedTag : Option Tag → Byte
  | some t => byte (t.val + 128)
  | none => 0

/-- The 12 bytes of a slot record (R170). -/
def slotRecord : Option Reservation → List Byte
  | none => List.replicate 12 0
  | some r =>
    [ byte (match r.state with
        | .reserved _ => 1
        | .writing _ => 2),
      byte (r.initiator.val + 16 * r.select.val), byte r.region.val ] ++
    leBytes 4 r.granule.toNat ++
    leBytes 2 (match r.state with
      | .reserved t => t
      | .writing _ => 0xFFFF) ++
    [ namedTag r.lockRead,
      namedTag (match r.state with
        | .reserved _ => none
        | .writing t => some t),
      0 ]

/-- The 49-byte reservation record (R170). -/
def reservationRecord (s : State) : List Byte :=
  ((List.finRange 4).flatMap fun k => slotRecord s.slots[k]) ++
    [byte (((List.finRange 8).map fun i => (s.lockLost[i]).toNat * 2 ^ i.val).sum)]

/-- The 16 bytes of an event record (R173). -/
def eventBytes (e : EventRecord) : List Byte :=
  [byte e.kind.number, byte (e.initiator.val + 16 * e.select.val), e.tag, byte e.region.val] ++
    leBytes 4 e.timestamp.toNat ++ leBytes 4 e.address.toNat ++ leBytes 2 e.countA.toNat ++ leBytes 2 e.countB.toNat

/-! ## Commands that read (R17, R65, R87, R144, R167) -/

/-- GET STATUS: a snapshot of the whole part, in every operating state (R164, R167). -/
def execGetStatus (s : State) : Answer :=
  .next (takeCommand Config.codeGetStatus [] (answer statusRecord) s)

/-- READ REGION: a snapshot of one region entry; INVALID for an index above 15 (R17, R165, R166). -/
def execReadRegion (index : Byte) (s : State) : Answer :=
  .next (takeCommand Config.codeReadRegion [index]
    (unlessLoading fun s =>
      if h : index.toNat < 16 then
        answer (fun s => packRegion ⟨index.toNat, h⟩ s.regions[index.toNat]) s
      else ⟨.invalid, [], s⟩) s)

/-- READ TAG: a snapshot of one tag record; INVALID for an initiator above 7 or a tag above 15 (R65, R165, R168). -/
def execReadTag (initiator tag : Byte) (s : State) : Answer :=
  .next (takeCommand Config.codeReadTag [initiator, tag]
    (unlessLoading fun s =>
      if h : initiator.toNat < 8 ∧ tag.toNat < 16 then
        answer (fun s => tagRecordBytes s ⟨⟨initiator.toNat, h.1⟩, ⟨tag.toNat, h.2⟩⟩) s
      else ⟨.invalid, [], s⟩) s)

/-- READ CAPTURE: a snapshot of one capture entry; INVALID for an entry above 31 (R87, R165, R169). -/
def execReadCapture (entry : Byte) (s : State) : Answer :=
  .next (takeCommand Config.codeReadCapture [entry]
    (unlessLoading fun s =>
      if h : entry.toNat < 32 then answer (fun s => entryRecordBytes s ⟨entry.toNat, h⟩) s
      else ⟨.invalid, [], s⟩) s)

/-- READ RESERVATIONS: a snapshot of the four slots and the eight lock-lost flags (R144, R170). -/
def execReadReservations (s : State) : Answer :=
  .next (takeCommand Config.codeReadReservations [] (unlessLoading (answer reservationRecord)) s)

/-! ## The event queue's commands (R174 to R176) -/

/-- Removes and returns the oldest record with the queue byte, or answers EMPTY (R174). -/
def takeOldest (s : State) : Reply :=
  match s.events with
  | [] => ⟨.empty, [], s⟩
  | e :: rest =>
    ⟨.ok, eventBytes e ++ [byte (rest.length + 128 * s.overflow.toNat)], { s with events := rest }⟩

/-- TAKE EVENT (R174). -/
def execTakeEvent (s : State) : Answer :=
  .next (takeCommand Config.codeTakeEvent [] (unlessLoading takeOldest) s)

/-- SET ALERT MASK: replaces the 17 enables from bits 0 to 16 and answers with the mask as it stands (R176). -/
def execSetAlertMask (mask : BitVec 24) (s : State) : Answer :=
  .next (takeCommand Config.codeSetAlertMask (leBytes 3 mask.toNat)
    (unlessLoading fun s => ⟨.ok, leBytes 3 (mask.setWidth 17).toNat, { s with alertMask := mask.setWidth 17 }⟩) s)

/-- CLEAR OVERFLOW: clears the flag and answers with the number of records held (R175). -/
def execClearOverflow (s : State) : Answer :=
  .next (takeCommand Config.codeClearOverflow []
    (unlessLoading fun s => ⟨.ok, [byte s.events.length], { s with overflow := false }⟩) s)

/-! ## Commands that change the tables -/

/-- STAGE REGION: writes every field of the staging record in IDLE; BUSY while DRAINING (R10, R166). -/
def execStageRegion (record : Vector Byte 16) (s : State) : Answer :=
  .next (takeCommand Config.codeStageRegion record.toList
    (unlessLoading fun s =>
      match s.apply with
      | .draining _ _ => ⟨.busy, [], s⟩
      | .idle => ⟨.ok, [], { s with staging := unpackRegion record.toList }⟩) s)

/-- The drain timer's limit in ticks (R9). -/
def drainTicks (s : State) : Nat := Config.ticksPerMs * s.drainLimit.toNat

/-- APPLY REGION (R10): BUSY while DRAINING; INVALID for an index above 15 or an invalid staging record; the change at
once when the region is not in use; else DRAINING and PENDING. -/
def applyStaged (index : Byte) (s : State) : Reply :=
  match s.apply with
  | .draining _ _ => ⟨.busy, [], s⟩
  | .idle =>
    if h : index.toNat < 16 then
      if s.staging.valid = false then ⟨.invalid, [], s⟩
      else if s.useCount ⟨index.toNat, h⟩ = 0 then ⟨.ok, [], settle s (makeChange ⟨index.toNat, h⟩ s)⟩
      else ⟨.pending, [], { s with apply := .draining ⟨index.toNat, h⟩ (drainTicks s) }⟩
    else ⟨.invalid, [], s⟩

/-- APPLY REGION (R10, R12). -/
def execApplyRegion (index : Byte) (s : State) : Answer :=
  .next (takeCommand Config.codeApplyRegion [index] (unlessLoading (applyStaged index)) s)

/-- SET SELECT: replaces one wait limit and answers with all four; INVALID for a select above 3 or a limit of 0
(R158, R165). -/
def execSetSelect (select limit : Byte) (s : State) : Answer :=
  .next (takeCommand Config.codeSetSelect [select, limit]
    (unlessLoading fun s =>
      if h : select.toNat < 4 ∧ limit ≠ 0 then
        ⟨.ok, (s.waitLimits.set select.toNat limit h.1).toList,
          { s with waitLimits := s.waitLimits.set select.toNat limit h.1 }⟩
      else ⟨.invalid, [], s⟩) s)

/-- Discards the strands of a scope, with one STRANDS_DISCARDED if there was any, and reports them (R104, R105). -/
def discardScope (es : List Numbered) (event : EventRecord) (s : State) : Reply :=
  ⟨.ok, byte es.length :: leBytes 2 (beatsHeld es), settle s (discard es event s)⟩

/-- DISCARD STRANDS (R104): ALL, REGION or LOCATION; only the parameters its scope uses are checked (R165). -/
def discardCommand (scope region select : Byte) (address : Word) (s : State) : Reply :=
  if scope = 0 then discardScope s.strands { kind := .strandsDiscarded, tag := 1 } s
  else if scope = 1 then
    if h : region.toNat < 16 then
      discardScope (s.strands.filter fun ec => decide (ec.2.region = ⟨region.toNat, h⟩))
        { kind := .strandsDiscarded, tag := 2, region := ⟨region.toNat, h⟩ } s
    else ⟨.invalid, [], s⟩
  else if scope = 2 then
    if h : select.toNat < 4 ∧ address.toNat < 2 ^ 28 then
      discardScope
        (s.strands.filter fun ec =>
          decide (ec.2.select = ⟨select.toNat, h.1⟩) && (s.heldRange ec.2).contains address.toNat)
        { kind := .strandsDiscarded, tag := 3, select := ⟨select.toNat, h.1⟩, address := address } s
    else ⟨.invalid, [], s⟩
  else ⟨.invalid, [], s⟩

/-- DISCARD STRANDS (R104, R105, R106). -/
def execDiscardStrands (scope region select : Byte) (address : Word) (s : State) : Answer :=
  .next (takeCommand Config.codeDiscardStrands (scope :: region :: select :: leBytes 4 address.toNat)
    (unlessLoading (discardCommand scope region select address)) s)

/-- BREAK LOCK (R142): frees the named initiator's RESERVED reservation with cause 1; BUSY when it is WRITING; INVALID
for an initiator above 7. -/
def breakCommand (initiator : Byte) (s : State) : Reply :=
  if h : initiator.toNat < 8 then
    match s.held ⟨initiator.toNat, h⟩ with
    | none => ⟨.ok, [], s⟩
    | some (k, r) =>
      match r.state with
      | .reserved _ => ⟨.ok, [], settle s (breakReservation k r 1 s)⟩
      | .writing _ => ⟨.busy, [], s⟩
  else ⟨.invalid, [], s⟩

/-- BREAK LOCK (R142). -/
def execBreakLock (initiator : Byte) (s : State) : Answer :=
  .next (takeCommand Config.codeBreakLock [initiator] (unlessLoading (breakCommand initiator)) s)

/-- HOLD: RUNNING becomes HELD (R185). -/
def execHold (s : State) : Answer :=
  .next (takeCommand Config.codeHold []
    (unlessLoading fun s => ⟨.ok, [byte OperatingState.held.code], { s with operating := .held }⟩) s)

/-- RELEASE: HELD becomes RUNNING (R185). -/
def execRelease (s : State) : Answer :=
  .next (takeCommand Config.codeRelease []
    (unlessLoading fun s => ⟨.ok, [byte OperatingState.running.code], { s with operating := .running }⟩) s)

/-- UNKNOWN COMMAND: a code that is not in the command table is taken at its command byte and answered UNKNOWN, in
every operating state (R162, R164). A code of the table is no unknown command and nothing is taken. -/
def execUnknownCommand (code : Byte) (s : State) : Answer :=
  if Config.commandCodes.contains code then .next s
  else .next (takeCommand code [] (fun s => ⟨.unknown, [], s⟩) s)

/-! ## Frames (R161) -/

/-- FRAME_START: the select's assertion begins an empty frame in the command phase. With the select already asserted it
does not arise. -/
def execFrameStart (s : State) : Answer :=
  match s.port with
  | .deselected => .next { s with port := .frame Frame.begun }
  | .ignored => .next s
  | .frame _ => .next s

/-- FRAME_END: the select's deassertion discards the frame; a command that was not taken has no effect, and one that
was taken keeps its effects (R161, R162). It ends an ignored frame too (R178). -/
def execFrameEnd (s : State) : Answer := .next { s with port := .deselected }

end Sys2Proof.Machine
end

