-- ==== Sys2Proof/Machine/Sequencer.lean ====
section
/-! DEFINITION. The target sequencer (chapter 8) and the performing of an UNLOCK (R141): the grant with its strands
and capture entry, the issue of beats, and the ways a beat ends. -/

namespace Sys2Proof.Machine

/-! ## Issuing a beat -/

/-- The strobe of beat `b` of an access (R150, R151): a write drives the beat's value on its lanes. -/
def beatStrobe (a : Access) (b : Nat) (s : State) : Strobe :=
  let address := beatAddress a.place a.size b
  { write := decide (a.kind = .write)
    select := a.place.select
    address := BitVec.ofNat 28 address
    lanes := laneMask a.size address
    lines :=
      match a.kind with
      | .read => 0
      | .write =>
        match s.tag a.pair with
        | some r => toLines address (r.data.getD b 0)
        | none => 0 }

/-- Issues the access's next beat: its strobe, and its wait timer with the access's wait limit (R150). -/
def issueBeat (a : Access) (s : State) : State :=
  { s.setAccess (some { a with next := a.next + 1, flight := some ⟨a.next, a.limit.toNat⟩ }) with
    strobes := s.strobes ++ [beatStrobe a a.next s] }

/-- Opens the access of a granted record and issues its first target beat (R148). -/
def openAccess (p : Pair) (r : TagRecord) (pl : Place) (first : Nat) (e : Option EntryIx) (s : State) : State :=
  issueBeat
    { pair := p, live := true, kind := if r.reads then .read else .write, place := pl, size := r.size
      first := first, count := r.count, next := first, limit := s.waitLimits[pl.select], flight := none
      entry := e, buffer := [] } s

/-! ## The grant of a guarded read -/

/-- Takes the beats from one strand: FREE when it is emptied; else it keeps the rest, and a STEP strand's start
advances, folded within its region's window (R96, R98). -/
def consume (t : Taken) (s : State) : State :=
  if t.empties then s.setEntry t.entry none
  else
    s.setEntry t.entry (some { t.strand with
      beats := t.strand.beats.drop t.beats.length
      start :=
        match t.strand.mode with
        | .fixed => t.strand.start
        | .step =>
          BitVec.ofNat 28 (foldedAddress s.regions[t.strand.region].targetBase.toNat
            s.regions[t.strand.region].span t.strand.start.toNat (t.beats.length * t.strand.size.bytes)) })

/-- A guarded read refused at grant: ERROR MISMATCH, DONE and SENT, released if committed, STRAND_MISMATCH (R95). -/
def refuseMismatch (p : Pair) (r : TagRecord) (pl : Place) (against : List Numbered) (s : State) : State :=
  (releaseIfFinished p
    ((s.setTag p (some { r with position := .done, response := .sent })).respond (.error p .mismatch))).raise
      (recordEvent .strandMismatch p pl against.length (beatsHeld against))

/-- A read served wholly from strands ends in its grant: DATA with every beat from strands (R71, R72, R149). -/
def servedWholly (p : Pair) (r : TagRecord) (beats : List Word) (s : State) : State :=
  releaseIfFinished p
    ((s.setTag p (some { r with position := .done, response := .sent })).respond
      (.data p (dataStatus r) beats.length beats))

/-- The entry a guarded read is given, holding its strand beats (R71). -/
def allocated (r : TagRecord) (pl : Place) (beats : List Word) (state : EntryState) (s : State) : CaptureEntry :=
  { state := state, region := pl.region, select := pl.select, start := pl.start, size := r.size, mode := pl.mode
    window := pl.strandWindow, beats := beats, allocation := s.allocations }

/-- Gives the entry to the read, with the next place in the order of allocation (R71, R92). -/
def giveEntry (e : EntryIx) (c : CaptureEntry) (s : State) : State :=
  { s.setEntry e (some c) with allocations := s.allocations + 1 }

/-- The work of the grant of a guarded read, its position being ISSUED already: the mismatch test, consumption, the
capture entry, and the access for the beats that strands do not serve (R93, R148, R149). -/
def grantGuarded (p : Pair) (r : TagRecord) (pl : Place) (s : State) : State :=
  let against := s.conflicts pl r.size r.count
  if against ≠ [] then refuseMismatch p r pl against s
  else
    let taken := s.consumption pl r.size r.count
    let beats := takenBeats taken
    let s := taken.foldl (fun s t => consume t s) s
    if r.count ≤ beats.length ∧ r.verdict = .committed then servedWholly p r beats s
    else
      match s.lowestFree with
      | none => s
      | some e =>
        let r := { r with entry := some e }
        if r.count ≤ beats.length then
          servedWholly p r beats (giveEntry e (allocated r pl beats (.captured p) s) s)
        else
          openAccess p r pl beats.length (some e)
            ((giveEntry e (allocated r pl beats (.filling (some p) (r.count - beats.length)) s) s).setTag p (some r))

/-- The grant of a pair's record: its position becomes ISSUED, the round-robin pointer moves to the initiator after
its own, and its kind and class decide the work (R147, R148). -/
def grantRecord (p : Pair) (r : TagRecord) (pl : Place) (s : State) : State :=
  let r := { r with position := .issued }
  let s := { s.setTag p (some r) with pointer := p.initiator + 1 }
  if r.guarded pl then grantGuarded p r pl s else openAccess p r pl 0 none s

/-- GRANT: the idle sequencer grants the first eligible record in turn (R146, R147). While an access is open, or with
no record eligible, there is no grant and nothing changes. -/
def execGrant (s : State) : Answer :=
  match s.access with
  | some _ => .next s
  | none =>
    match s.firstInTurn s.eligible with
    | none => .next s
    | some p =>
      match s.tag p with
      | none => .next s
      | some r =>
        match r.place with
        | none => .next s
        | some pl => .next (settle s (grantRecord p r pl s))

/-! ## Beats -/

/-- BEAT_ISSUE: an open access with no beat in flight issues its next beat (R150). -/
def execBeatIssue (s : State) : Answer :=
  match s.access with
  | none => .next s
  | some a =>
    match a.flight with
    | some _ => .next s
    | none => .next (issueBeat a s)

/-- The beat is the record's last. -/
def Access.isLast (a : Access) (b : Nat) : Bool := decide (a.count ≤ b + 1)

/-- A live read's beat obtained: appended to its entry or its read buffer; the last one ends the access
(R73, R152). -/
def readBeat (a : Access) (b : Nat) (v : Word) (s : State) : State :=
  match a.entry with
  | some e =>
    if a.isLast b then endRead a none (appendBeat e v (s.setAccess none))
    else appendBeat e v (s.setAccess (some { a with flight := none }))
  | none =>
    if a.isLast b then endRead { a with buffer := a.buffer ++ [v] } none (s.setAccess none)
    else s.setAccess (some { a with flight := none, buffer := a.buffer ++ [v] })

/-- A write's beat written; the last one ends the access (R119, R152). -/
def writtenBeat (a : Access) (b : Nat) (s : State) : State :=
  if a.isLast b then endWrite a .ok (s.setAccess none) else s.setAccess (some { a with flight := none })

/-- A beat ends with ready (R152, R156). -/
def beatReady (a : Access) (b : Nat) (lines : Word) (s : State) : State :=
  let v := fromLines a.size (beatAddress a.place a.size b) lines
  match a.kind with
  | .write => writtenBeat a b s
  | .read => if a.live then readBeat a b v s else endRemoved a (some v) (s.setAccess none)

/-- A beat fails: the access ends, and READ_FAULT or WRITE_FAULT reports it (R121, R122, R153 to R156). -/
def beatFails (a : Access) (b : Nat) (timeout : Bool) (s : State) : State :=
  let status := if timeout then Status.targetTimeout else Status.targetError
  let s := s.setAccess none
  match a.kind with
  | .write => (endWrite a status s).raise (recordEvent .writeFault a.pair a.place b timeout.toNat)
  | .read =>
    if a.live then
      (endRead a (some status) s).raise (recordEvent .readFault a.pair a.place (b - a.first) timeout.toNat)
    else
      (endRemoved a none s).raise (recordEvent .readFault a.pair a.place (b - a.first) (timeout.toNat + 2))

/-- TARGET_READY: ends the beat in flight with ready; with none in flight it is ignored (R151, R152). -/
def execTargetReady (lines : Word) (s : State) : Answer :=
  match s.access with
  | none => .next s
  | some a =>
    match a.flight with
    | none => .next s
    | some f => .next (settle s (beatReady a f.beat lines s))

/-- TARGET_ERROR: ends the beat in flight as an error, whether or not ready is signalled with it; with none in flight
it is ignored (R151, R153). -/
def execTargetError (_ready : Bool) (s : State) : Answer :=
  match s.access with
  | none => .next s
  | some a =>
    match a.flight with
    | none => .next s
    | some f => .next (settle s (beatFails a f.beat false s))

/-- STRAY_ANSWER: an indication sampled while no beat is in flight is ignored (R151). While a beat is in flight an
indication is that beat's end, TARGET_READY or TARGET_ERROR, and this event does not arise (log entry 3). -/
def execStrayAnswer (_error : Bool) (s : State) : Answer := .next s

/-- A due wait timer: the beat in flight fails with TARGET_TIMEOUT and its select is released (R154). -/
def expireWait (s : State) : State :=
  match s.access with
  | none => s
  | some a =>
    match a.flight with
    | none => s
    | some f => if f.timer = 0 then settle s (beatFails a f.beat true s) else s

/-- WAIT_TIMER_EXPIRY (R154). -/
def execWaitTimerExpiry (s : State) : Answer := .next (expireWait s)

/-- UNLOCK_PERFORM: the initiator's ready UNLOCK is performed (R64, R141). Every event that makes an UNLOCK ready
performs it itself, in its `settle` (log entry 4); with none ready nothing changes. -/
def execUnlockPerform (i : Initiator) (s : State) : Answer :=
  match s.readyUnlock i with
  | none => .next s
  | some p => .next (settle s (performUnlock p s))

end Sys2Proof.Machine
end

