-- ==== Sys2Proof/Machine/Startup.lean ====
section
/-! DEFINITION. The two resets and the boot read (sections 2.9, 4.10, 7.8, 8.7, 9.5 and chapter 10). -/

namespace Sys2Proof.Machine

/-! ## Power-on reset -/

/-- The management port after a power-on reset: a frame in progress is ignored to its end (R178). -/
def portAfterReset : Port → Port
  | .deselected => .deselected
  | .ignored => .ignored
  | .frame _ => .ignored

/-- POWER_ON_RESET: every table and the event queue are empty, every setting is at its default, and BOOTSEL decides
between LOADING, with the read begun, and HELD (R16, R38, R86, R108, R143, R159, R178, R180). What the part has sent and
driven before it, the queue and the bytes not clocked yet stay. -/
def execPowerOnReset (bootsel : Bool) (s : State) : Answer :=
  .next
    { State.reset with
      operating := if bootsel then .held else .loading
      image := if bootsel then .notRead else .loading
      boot := if bootsel then .idle else .header
      port := portAfterReset s.port
      responses := s.responses
      strobes := s.strobes
      dataIn := s.dataIn
      pending := s.pending }

/-! ## Host-link reset -/

/-- The pairs whose records a host-link reset removes: every live one but the survivors (R39). -/
def resetRemoves (s : State) : List Pair := allPairs.filter fun p => (s.tag p).any fun r => !r.survivor

/-- The number of removed records that satisfy `f`. Error records have no region index and are counted nowhere
(R40). -/
def removedCount (s : State) (f : TagRecord → Bool) : Nat :=
  (resetRemoves s).countP fun p => (s.tag p).any fun r => r.place.isSome && f r

/-- The HOST_RESET event: writes removed with verdict NONE, reads removed, and in the target address field the removed
reads bound to a CAPTURED or FILLING entry (R40). -/
def hostResetEvent (s : State) : EventRecord :=
  { kind := .hostReset
    countA := count16 (removedCount s fun r => r.writes && decide (r.verdict = .none))
    countB := count16 (removedCount s fun r => r.reads)
    address := BitVec.ofNat 32 (removedCount s fun r => r.reads && r.entry.isSome) }

/-- A survivor's response is set to SENT (R39). -/
def markSent (p : Pair) (s : State) : State :=
  match s.tag p with
  | some r => s.setTag p (some { r with response := .sent })
  | none => s

/-- A reservation at a host-link reset, the records that the reset removes being gone: freed unless it is WRITING for a
survivor; a kept one loses its lock-read record (R143). -/
def resetReservation (s : State) (r : Reservation) : Option Reservation :=
  match r.state with
  | .reserved _ => none
  | .writing t =>
    if (s.tag ⟨r.initiator, t⟩).any fun w => decide (w.kind = .lockWrite) then some { r with lockRead := none }
    else none

/-- The lock table at a host-link reset (R143). -/
def resetLocks (s : State) : State :=
  { s with
    slots := #v[(s.slots[0]).bind (resetReservation s), (s.slots[1]).bind (resetReservation s),
      (s.slots[2]).bind (resetReservation s), (s.slots[3]).bind (resetReservation s)]
    lockLost := Vector.replicate 8 false }

/-- The tag, capture and lock tables and the open access at a host-link reset (R39, R84, R143, R157). -/
def resetTables (s : State) : State :=
  let stranded := strandAll (s.capturedBy fun _ => true) s
  let removed := (resetRemoves s).foldl (fun t p => endAccessOf p (t.setTag p none)) stranded
  resetLocks (allPairs.foldl (fun t p => markSent p t) removed)

/-- HOST_LINK_RESET: every live record but the survivors goes without a response, entries strand, reservations and
lock-lost flags go, and HOST_RESET counts what was removed (R39, R40). The reset itself leaves the exhaustion latch as it
stands (R84). DESIGN CHOICE (log entry 7): where the reset completes a drain (R16) whose discards raise the free count to
4 or more, the latch clears by R83. -/
def execHostLinkReset (s : State) : Answer := .next (settle s ((resetTables s).raise (hostResetEvent s)))

/-! ## The boot read -/

/-- HEADER_READ_DONE: checks 1 to 4; a failure ends the read, else the body is read (R181, R183). Without a header being
read it does not arise. -/
def execHeaderReadDone (header : Vector Byte 12) (s : State) : Answer :=
  match s.boot with
  | .idle => .next s
  | .body _ => .next s
  | .ended _ _ => .next s
  | .header =>
    match checkHeader header with
    | none => .next { s with boot := .body header }
    | some failure => .next { s with boot := .ended header failure }

/-- The settings when no valid image supplies them (R184). -/
def defaultSettings (s : State) : State :=
  { s with
    divider := Config.defaultDivider
    drainLimit := Config.defaultDrainLimit
    waitLimits := Vector.replicate 4 Config.defaultWaitLimit
    boot := .idle }

/-- The outcome of a valid image (R184). -/
def loadValid (header : Vector Byte 12) (body : List Byte) (s : State) : State :=
  { s with
    regions := imageRegions header body
    divider := header[6]
    drainLimit := header[7]
    waitLimits := imageWaitLimits header
    image := .valid
    operating := .running
    boot := .idle }

/-- The outcome of a failed check: the fallback table and RUNNING for an absent image, HELD for a corrupt one, with the
event of each (R184). -/
def loadFailed (header : Vector Byte 12) (failure : ImageFailure) (s : State) : State :=
  match failure with
  | .absent allOnes =>
    { defaultSettings s with
      regions := (Vector.replicate 16 RegionEntry.off).set 0 RegionEntry.fallback
      image := .absent
      operating := .running }.raise
      { kind := .imageAbsent, countA := 4, countB := count16 allOnes.toNat }
  | .corrupt cause offset index =>
    { defaultSettings s with image := .corrupt, operating := .held }.raise
      { kind := .imageCorrupt, region := index, address := BitVec.ofNat 32 offset, countA := count16 cause
        countB := count16 (regionCount header) }

/-- END_OF_LOADING: the outcome of the checks is applied in one event, which also ends the read (R184). With the header
still being read, or with another number of body bytes than the image has, it does not arise. -/
def execEndOfLoading (body : List Byte) (s : State) : Answer :=
  match s.boot with
  | .idle => .next s
  | .header => .next s
  | .ended header failure => .next (loadFailed header failure s)
  | .body header =>
    if body.length = 16 * regionCount header + 2 then
      match checkBody header body with
      | none => .next (loadValid header body s)
      | some failure => .next (loadFailed header failure s)
    else .next s

end Sys2Proof.Machine
end

