-- ==== Sys2Proof/Machine/Timers.lean ====
section
/-! DEFINITION. The timebase and the timers: the expiries of verdict, strand, lock and drain timers, the tick, and the
completion of a drain (R187, R188 and the rules that own each timer). An expiry is taken when the timer it names has
counted down to 0; an expiry that names no such timer does not arise and changes nothing (log entry 3). -/

namespace Sys2Proof.Machine

/-! ## Expiries -/

/-- The ABANDONED response of a record whose verdict timer expires, if its response is PENDING (R36, R52). -/
def abandon (p : Pair) (r : TagRecord) (s : State) : State :=
  match r.response with
  | .sent => s
  | .pending => if r.reads then s.respond (.data p .abandoned 0 []) else s.respond (.ack p .abandoned)

/-- The VERDICT_TIMEOUT event of a record (R52). -/
def timeoutEvent (p : Pair) (r : TagRecord) : EventRecord :=
  match r.place with
  | some pl => recordEvent .verdictTimeout p pl (decide (r.response = .pending)).toNat 0
  | none =>
    { kind := .verdictTimeout, initiator := p.initiator, tag := tagField p.tag
      countA := count16 (decide (r.response = .pending)).toNat }

/-- A due verdict timer: ABANDONED if the response is due, removal as by KILL, VERDICT_TIMEOUT (R52). -/
def expireVerdict (p : Pair) (s : State) : State :=
  match s.tag p with
  | none => s
  | some r =>
    if r.timer = some 0 ∧ r.verdict = .none then
      settle s ((removeRecords [p] (abandon p r s)).raise (timeoutEvent p r))
    else s

/-- VERDICT_TIMER_EXPIRY (R52). -/
def execVerdictTimerExpiry (p : Pair) (s : State) : Answer := .next (expireVerdict p s)

/-- A due strand timer: the strand is freed, its beats are lost, STRAND_EXPIRED reports them (R103). -/
def expireStrand (e : EntryIx) (s : State) : State :=
  match s.entries[e] with
  | none => s
  | some c =>
    match c.state with
    | .stranded _ (some 0) =>
      settle s ((s.setEntry e none).raise
        { kind := .strandExpired, select := c.select, region := c.region, address := addressField c.start
          countA := count16 c.beats.length
          countB := count16 (c.size.bytes + if c.mode = .step then 16 else 0) })
    | .stranded _ _ => s
    | .filling _ _ => s
    | .captured _ => s

/-- STRAND_TIMER_EXPIRY (R103). -/
def execStrandTimerExpiry (e : EntryIx) (s : State) : Answer := .next (expireStrand e s)

/-- A due lock timer: the RESERVED reservation is broken, with cause 0 (R135). -/
def expireLock (k : SlotIx) (s : State) : State :=
  match s.slots[k] with
  | none => s
  | some r => if r.state = .reserved 0 then settle s (breakReservation k r 0 s) else s

/-- LOCK_TIMER_EXPIRY (R135). -/
def execLockTimerExpiry (k : SlotIx) (s : State) : Answer := .next (expireLock k s)

/-- A due drain timer: the change is abandoned, the region reopens unchanged, APPLY_TIMEOUT gives the use count
(R15). -/
def expireDrain (s : State) : State :=
  match s.apply with
  | .idle => s
  | .draining r t =>
    if t = 0 then
      { s with apply := .idle }.raise { kind := .applyTimeout, region := r, countA := count16 (s.useCount r) }
    else s

/-- DRAIN_TIMER_EXPIRY (R15). -/
def execDrainTimerExpiry (s : State) : Answer := .next (expireDrain s)

/-! ## The tick -/

/-- `f` at every place of a table. -/
def mapTable {α β : Type} {n : Nat} (f : α → β) (v : Vector α n) : Vector β n :=
  ⟨⟨v.toList.map f⟩, by simp⟩

/-- One tick of a running timer's remaining time. -/
def countDown (t : Option Nat) : Option Nat := t.map (· - 1)

/-- A tick of a record's verdict timer. -/
def TagRecord.tick (r : TagRecord) : TagRecord := { r with timer := countDown r.timer }

/-- A tick of a strand's timer. -/
def CaptureEntry.tick (c : CaptureEntry) : CaptureEntry :=
  match c.state with
  | .stranded q t => { c with state := .stranded q (countDown t) }
  | .filling _ _ => c
  | .captured _ => c

/-- A tick of a reservation's lock timer. -/
def Reservation.tick (r : Reservation) : Reservation :=
  match r.state with
  | .reserved t => { r with state := .reserved (t - 1) }
  | .writing _ => r

/-- A tick of the drain timer. -/
def ApplyState.tick : ApplyState → ApplyState
  | .idle => .idle
  | .draining r t => .draining r (t - 1)

/-- A tick of the wait timer of the beat in flight. -/
def Access.tick (a : Access) : Access := { a with flight := a.flight.map fun f => { f with timer := f.timer - 1 } }

/-- The counting of a tick: the 32-bit counter advances by one, wrapping to 0, and every running timer counts the tick
(R187, R188). -/
def countTick (s : State) : State :=
  { s with
    timebase := s.timebase + 1
    tags := mapTable (mapTable (Option.map TagRecord.tick)) s.tags
    entries := mapTable (Option.map CaptureEntry.tick) s.entries
    slots := mapTable (Option.map Reservation.tick) s.slots
    apply := s.apply.tick
    access := s.access.map Access.tick }

/-- A timer of the part, by what it belongs to (R188): the verdict timer of a pair's record, the strand timer of a capture
entry, the lock timer of a slot's reservation, the drain timer, and the wait timer of the beat in flight. -/
inductive Timer where
  | verdict (p : Pair)
  | strand (e : EntryIx)
  | lock (k : SlotIx)
  | drain
  | wait
  deriving DecidableEq, Repr

/-- The expiry of a timer, an event of the block that owns it (R188). -/
def expire : Timer → State → State
  | .verdict p => expireVerdict p
  | .strand e => expireStrand e
  | .lock k => expireLock k
  | .drain => expireDrain
  | .wait => expireWait

/-- Every timer, in the order in which the expiries of one tick are taken. DESIGN CHOICE (log entry 6). -/
def allTimers : List Timer :=
  allPairs.map .verdict ++ (List.finRange 32).map .strand ++ (List.finRange 4).map .lock ++ [.drain, .wait]

/-- A timer has reached its limit and its expiry is not taken yet (R188). -/
def State.due (s : State) : Timer → Bool
  | .verdict p => (s.tag p).any fun r => decide (r.timer = some 0) && decide (r.verdict = .none)
  | .strand e => (s.entries[e]).any fun c =>
      match c.state with
      | .stranded _ t => decide (t = some 0)
      | .filling _ _ => false
      | .captured _ => false
  | .lock k => (s.slots[k]).any fun r => decide (r.state = .reserved 0)
  | .drain =>
    match s.apply with
    | .idle => false
    | .draining _ t => decide (t = 0)
  | .wait => s.access.any fun a => a.flight.any fun f => decide (f.timer = 0)

/-- The expiries of those of the timers that are due, in turn, each an event of its own. -/
def expireAll : List Timer → State → State
  | [], s => s
  | t :: ts, s => if s.due t then expireAll ts (expire t s) else expireAll ts s

/-- TIMEBASE_TICK: the tick is counted, and every timer that has reached its limit expires at it (R187, R188). DESIGN CHOICE
(log entry 6): the counter advances before the expiries of its tick, so that an event which one of them raises carries the
advanced counter as its timestamp; R173, R187 and R188 do not say which of the two values it is. -/
def execTimebaseTick (s : State) : Answer := .next (expireAll allTimers (countTick s))

/-! ## The end of a drain -/

/-- DRAIN_COMPLETE: with the draining region's use count at zero the change is made, the drain timer stops and
APPLY_DONE is raised (R14). Every event that brings the count to zero completes the drain itself, in its `settle`
(log entry 4); with no drain, or a region still in use, nothing changes. -/
def execDrainComplete (s : State) : Answer :=
  match s.apply with
  | .idle => .next s
  | .draining r _ => if s.useCount r = 0 then .next (settle s (completeDrain s)) else .next s

end Sys2Proof.Machine
end

