-- ==== Sys2Proof/Machine/Verdicts.lean ====
section
/-! DEFINITION. COMMIT, KILL and FLUSH (chapter 3). -/

namespace Sys2Proof.Machine

/-- VERDICT_UNKNOWN and VERDICT_CONFLICT: the pair, and the verdict's kind code in count A (R43, R44). -/
def verdictEvent (kind : EventKind) (p : Pair) (code : Nat) : EventRecord :=
  { kind := kind, initiator := p.initiator, tag := tagField p.tag, countA := count16 code }

/-- COMMIT: the verdict becomes COMMITTED and the verdict timer stops; a DONE and SENT record is released and its
CAPTURED entry freed (R45, R76). -/
def execCommit (p : Pair) (s : State) : Answer :=
  match s.tag p with
  | none => .next (s.raise (verdictEvent .verdictUnknown p 5))
  | some r =>
    match r.verdict with
    | .committed => .next (s.raise (verdictEvent .verdictConflict p 5))
    | .none =>
      .next (settle s (releaseIfFinished p (s.setTag p (some { r with verdict := .committed, timer := none }))))

/-- KILL: an uncommitted record is removed (R46, R47, R48). -/
def execKill (p : Pair) (s : State) : Answer :=
  match s.tag p with
  | none => .next (s.raise (verdictEvent .verdictUnknown p 6))
  | some r =>
    match r.verdict with
    | .committed => .next (s.raise (verdictEvent .verdictConflict p 6))
    | .none => .next (settle s (removeRecords [p] s))

/-- The pairs a FLUSH selects: the initiator's live uncommitted records at or after the anchor in order (R49). -/
def flushed (i : Initiator) (order : Nat) (s : State) : List Pair :=
  (pairsOf i).filter fun p => (s.tag p).any fun r => decide (r.verdict = .none) && decide (order ≤ r.order)

/-- FLUSH: every uncommitted record of the initiator at or after the anchor is removed in one event (R49, R50). -/
def execFlush (p : Pair) (s : State) : Answer :=
  match s.tag p with
  | none => .next (s.raise (verdictEvent .verdictUnknown p 7))
  | some r => .next (settle s (removeRecords (flushed p.initiator r.order s) s))

end Sys2Proof.Machine
end

