-- ==== Sys2Proof/Machine/Dispatch.lean ====
section
/-! DEFINITION. One arm per row of the table, each a direct call of the row's meaning. -/

namespace Sys2Proof.Machine

def exec (i : Instr) (s : State) : Host.Outcome State Fault Refusal :=
  match i with
  | .powerOnReset bootsel => Sys2Proof.Machine.execPowerOnReset bootsel s
  | .hostLinkReset => Sys2Proof.Machine.execHostLinkReset s
  | .read q => Sys2Proof.Machine.execRead q s
  | .write q => Sys2Proof.Machine.execWrite q s
  | .lockRead q => Sys2Proof.Machine.execLockRead q s
  | .lockWrite q => Sys2Proof.Machine.execLockWrite q s
  | .unlock q => Sys2Proof.Machine.execUnlock q s
  | .commit p => Sys2Proof.Machine.execCommit p s
  | .kill p => Sys2Proof.Machine.execKill p s
  | .flush p => Sys2Proof.Machine.execFlush p s
  | .verdictTimerExpiry p => Sys2Proof.Machine.execVerdictTimerExpiry p s
  | .strandTimerExpiry e => Sys2Proof.Machine.execStrandTimerExpiry e s
  | .lockTimerExpiry k => Sys2Proof.Machine.execLockTimerExpiry k s
  | .drainTimerExpiry => Sys2Proof.Machine.execDrainTimerExpiry s
  | .waitTimerExpiry => Sys2Proof.Machine.execWaitTimerExpiry s
  | .timebaseTick => Sys2Proof.Machine.execTimebaseTick s
  | .drainComplete => Sys2Proof.Machine.execDrainComplete s
  | .grant => Sys2Proof.Machine.execGrant s
  | .beatIssue => Sys2Proof.Machine.execBeatIssue s
  | .targetReady lines => Sys2Proof.Machine.execTargetReady lines s
  | .targetError ready => Sys2Proof.Machine.execTargetError ready s
  | .strayAnswer error => Sys2Proof.Machine.execStrayAnswer error s
  | .unlockPerform j => Sys2Proof.Machine.execUnlockPerform j s
  | .getStatus => Sys2Proof.Machine.execGetStatus s
  | .takeEvent => Sys2Proof.Machine.execTakeEvent s
  | .setAlertMask mask => Sys2Proof.Machine.execSetAlertMask mask s
  | .clearOverflow => Sys2Proof.Machine.execClearOverflow s
  | .stageRegion record => Sys2Proof.Machine.execStageRegion record s
  | .applyRegion index => Sys2Proof.Machine.execApplyRegion index s
  | .readRegion index => Sys2Proof.Machine.execReadRegion index s
  | .setSelect select limit => Sys2Proof.Machine.execSetSelect select limit s
  | .readTag initiator tag => Sys2Proof.Machine.execReadTag initiator tag s
  | .readCapture entry => Sys2Proof.Machine.execReadCapture entry s
  | .readReservations => Sys2Proof.Machine.execReadReservations s
  | .discardStrands scope region select address => Sys2Proof.Machine.execDiscardStrands scope region select address s
  | .breakLock initiator => Sys2Proof.Machine.execBreakLock initiator s
  | .hold => Sys2Proof.Machine.execHold s
  | .release => Sys2Proof.Machine.execRelease s
  | .unknownCommand code => Sys2Proof.Machine.execUnknownCommand code s
  | .frameEnd => Sys2Proof.Machine.execFrameEnd s
  | .headerReadDone header => Sys2Proof.Machine.execHeaderReadDone header s
  | .endOfLoading body => Sys2Proof.Machine.execEndOfLoading body s
  | .frameStart => Sys2Proof.Machine.execFrameStart s

end Sys2Proof.Machine
end

