-- ==== Sys2Proof/Machine/Port.lean ====
section
/-! DEFINITION. The bytes of a management frame as they are clocked in (R161, R162). The table has no row for a byte; `step`
clocks one where no command waits (log entry 9). -/

namespace Sys2Proof.Machine

/-- The frame has received `bytes` of its command: at the end of the last parameter byte the command is taken, and before it
the frame stands in its parameter phase (R161, R162). -/
def receiveBytes (bytes : List Byte) (s : State) : Answer :=
  match decodeFrame bytes with
  | some c => exec c s
  | none =>
    .next { s with
      port := .frame { phase := .parameters, code := bytes.head?, params := bytes.tail, response := [], sent := 0 } }

/-- One byte clocked in on the management port: the next byte of the command, the ignored turnaround byte, or an ignored byte
beside a byte of the response (R161, R162). Outside a frame, and in a frame ignored to its end (R178), it has no effect. -/
def clockByte (b : Byte) (s : State) : Answer :=
  match s.port with
  | .deselected => .next s
  | .ignored => .next s
  | .frame f =>
    match f.phase with
    | .command => receiveBytes [b] s
    | .parameters => receiveBytes (f.received ++ [b]) s
    | .turnaround => .next { s with port := .frame { f with phase := .response } }
    | .response => .next { s with port := .frame { f with sent := f.sent + 1 } }

/-- Where no command waits: the next byte on data in is clocked, and with none the part idles (log entries 5 and 9). -/
def clockNext (s : State) : Answer :=
  match s.dataIn with
  | [] => .next s
  | b :: rest => clockByte b { s with dataIn := rest }

end Sys2Proof.Machine
end

