-- ==== Sys2Proof/Machine/Step.lean ====
section
/-! DEFINITION. One step of the part: the command at the front of its queue is taken, or a byte of a frame is clocked. -/

namespace Sys2Proof.Machine

/-- Takes the command at the front of the queue and executes it with the queue's rest. On an empty queue the next byte of
the management port is clocked, and with none the part idles (log entries 5 and 9). -/
def step (s : State) : Host.Outcome State Fault Refusal :=
  match s.pending with
  | [] => clockNext s
  | c :: rest => exec c { s with pending := rest }

/-- The state with the command that a word spells by the table's bits at the front of its queue; the table gives no row
any bits, so no word spells one. -/
def State.withFetchWord (s : State) (nbits w : Nat) : State :=
  match decodeTableWord nbits w with
  | some c => { s with pending := c :: s.pending }
  | none => s

end Sys2Proof.Machine
end

