-- ==== Sys2Proof/Safety.lean ====
section
/-! DEFINITION. The terms in which claims about the part are stated: what is due at the end of an event, the laws that
the tables keep between them, what a removal leaves, the forms of requests and frames, the conditions of a grant, and the
layouts of records. -/

namespace Sys2Proof.Machine

/-! ## What is due -/

/-- A drain is due for completion: the draining region's use count is zero (R14). -/
def State.drainDue (s : State) : Bool :=
  match s.apply with
  | .idle => false
  | .draining r _ => decide (s.useCount r = 0)

/-- Nothing is left over from the last event: no UNLOCK is ready to be performed and no drain is due for completion, as
both happen within the event that makes them due (R14, R141). -/
abbrev Settled (s : State) : Prop := (∀ i, s.readyUnlock i = none) ∧ s.drainDue = false

/-- The state after a command. -/
def State.after (s : State) (c : Instr) : State :=
  match exec c s with
  | .next t => t
  | .fault _ => s
  | .refused _ => s

/-- The row of a timer's expiry. -/
def expiryRow : Timer → Instr
  | .verdict p => .verdictTimerExpiry p
  | .strand e => .strandTimerExpiry e
  | .lock k => .lockTimerExpiry k
  | .drain => .drainTimerExpiry
  | .wait => .waitTimerExpiry

/-! ## The laws of the tables -/

/-- The event queue holds at most 16 records (R171). -/
abbrev QueueLaw (s : State) : Prop := s.events.length ≤ 16

/-- No invalid entry stands in the region table, nor waits in the staging record for a drain to end (R8, R10). -/
abbrev RegionLaw (s : State) : Prop :=
  (∀ r : RegionIx, s.regions[r].valid = true) ∧ (s.apply ≠ .idle → s.staging.valid = true)

/-- No lock, drain or wait limit is 0, the limit of the open access and the limits in the header of an image that is being
read among them, and no timer stands at its limit (R188). -/
abbrev TimerLaw (s : State) : Prop :=
  RegionLaw s ∧ s.drainLimit ≠ 0 ∧ (∀ k : Select, s.waitLimits[k] ≠ 0) ∧ (∀ a ∈ s.access, a.limit ≠ 0) ∧
  (∀ h : Vector Byte 12, s.boot = .body h → ∀ (k : Nat) (hk : k < 12), 7 ≤ k → h[k] ≠ 0) ∧ ∀ T : Timer, s.due T = false

/-- At most one reservation per initiator, no two of the same granule (R128), and the lock-lost flag of an initiator that
holds one clear (R130). -/
abbrev LockLaw (s : State) : Prop :=
  (∀ k l : SlotIx, k ≠ l → ∀ r ∈ s.slots[k], ∀ q ∈ s.slots[l],
    r.initiator ≠ q.initiator ∧ ¬(r.select = q.select ∧ r.granule = q.granule)) ∧
  ∀ k : SlotIx, ∀ r ∈ s.slots[k], s.lockLost[r.initiator] = false

/-- The record fits the kind of the access that is open for it (R145). -/
def fits (k : AccessKind) (r : TagRecord) : Bool :=
  match k with
  | .read => r.reads
  | .write => r.writes

/-- An ISSUED WRITE or LOCK-WRITE is COMMITTED (R48, R112). A live access is open for an ISSUED record of its kind; a
write's is always live; an access without a capture entry has no beats from strands (R145). -/
abbrev AccessLaw (s : State) : Prop :=
  (∀ (i : Initiator) (t : Tag), ∀ r ∈ s.tag ⟨i, t⟩, r.writes = true → r.position = .issued → r.verdict = .committed) ∧
  ∀ a ∈ s.access,
    (a.live = true → (s.tag a.pair).any (fun r => decide (r.position = .issued) && fits a.kind r) = true) ∧
    (a.kind = .write → a.live = true) ∧ (a.entry = none → a.first = 0)

/-- The tag of the LOCK-WRITE that a WRITING reservation names (R128). -/
def LockState.lockWrite : LockState → Option Tag
  | .reserved _ => none
  | .writing t => some t

/-- The records that a reservation names are live: a LOCK-READ, and a LOCK-WRITE that is WAITING or ISSUED (R128). -/
abbrev NamesLaw (s : State) : Prop :=
  ∀ k : SlotIx, ∀ r ∈ s.slots[k],
    (∀ t ∈ r.lockRead, (s.tag ⟨r.initiator, t⟩).any (fun w => decide (w.kind = .lockRead)) = true) ∧
    ∀ t ∈ r.state.lockWrite,
      (s.tag ⟨r.initiator, t⟩).any (fun w => decide (w.kind = .lockWrite) && !decide (w.position = .done)) = true

/-- A LOCK-WRITE that is WAITING or ISSUED is named by a WRITING reservation of its initiator on the granule that it
touches (R138). -/
abbrev WritingLaw (s : State) : Prop :=
  ∀ (i : Initiator) (t : Tag), ∀ w ∈ s.tag ⟨i, t⟩, w.kind = .lockWrite → w.position ≠ .done →
    ∃ k : SlotIx, ∃ v ∈ s.slots[k], v.initiator = i ∧ v.state = .writing t ∧
      ∀ pl ∈ w.place, v.select = pl.select ∧ v.granule.toNat = pl.start.toNat / 8 * 8

/-- An entry is FILLING. -/
def CaptureEntry.isFilling (c : CaptureEntry) : Bool :=
  match c.state with
  | .filling _ _ => true
  | .captured _ => false
  | .stranded _ _ => false

/-- The pair that the FILLING entry of an access is bound to: the access's own while its record lives (R67, R79). -/
def Access.binds (a : Access) : Option Pair := if a.live then some a.pair else none

/-- A record that has a capture entry is a read past WAITING and the entry is bound to it. A CAPTURED entry belongs to an
uncommitted record that is DONE and SENT, so a COMMITTED record is bound to a FILLING entry only (R67). -/
abbrev RecordsBound (s : State) : Prop :=
  ∀ (i : Initiator) (t : Tag), ∀ r ∈ s.tag ⟨i, t⟩, ∀ e ∈ r.entry, r.reads = true ∧ r.position ≠ .waiting ∧
    (s.entries[e]).any (fun c => decide (c.state.boundTo = some ⟨i, t⟩) &&
      (c.isFilling || decide (r.verdict = .none) && decide (r.position = .done) && decide (r.response = .sent))) = true

/-- A bound entry is the capture entry of the record it is bound to (R67), and a FILLING entry is that of the open access
(R73). -/
abbrev EntriesBound (s : State) : Prop :=
  ∀ e : EntryIx, ∀ c ∈ s.entries[e],
    (∀ p ∈ c.state.boundTo, (s.tag p).any (fun r => decide (r.entry = some e)) = true) ∧
    (c.isFilling = true → s.access.any (fun a => decide (a.entry = some e)) = true)

/-- The entry of the open access is FILLING, and bound to its record while that lives, whose capture entry it is
(R67, R79, R145). -/
abbrev AccessBound (s : State) : Prop :=
  ∀ a ∈ s.access,
    (∀ e ∈ a.entry, a.kind = .read ∧
      (s.entries[e]).any (fun c => c.isFilling && decide (c.state.boundTo = a.binds)) = true) ∧
    (a.live = true → ∀ r ∈ s.tag a.pair, r.entry = a.entry)

/-- Records, capture entries and the open access are bound to one another in every direction (R67). -/
abbrev BindingLaw (s : State) : Prop := RecordsBound s ∧ EntriesBound s ∧ AccessBound s

/-- The tables agree about one another. -/
abbrev Lawful (s : State) : Prop := LockLaw s ∧ AccessLaw s ∧ NamesLaw s ∧ WritingLaw s ∧ BindingLaw s

/-! ## The removal of records -/

/-- What the removal of the records of the pairs `gone` leaves of an entry, `n` being the sequence number of the strand that
it forms, if it does: a CAPTURED one bound to a removed record becomes a strand (R78, R84); a FILLING one bound to one is
unbound with a beat in flight, and else becomes a strand or, with no beats, FREE (R79, R156). A strand's timer is a fresh one
of its window, none for a window of 0 (R77, R102). -/
def entryAfterRemoval (s : State) (gone : Pair → Bool) (n : Nat) (c : CaptureEntry) : Option CaptureEntry :=
  let strand := { c with state := EntryState.stranded n (if c.window = 0 then none else some c.window.toNat) }
  match c.state with
  | .captured q => some (if gone q then strand else c)
  | .filling b requested =>
    if b.any gone then
      if s.access.any (·.flight.isSome) then some { c with state := .filling none requested }
      else if c.beats = [] then none
      else some strand
    else some c
  | .stranded _ _ => some c

/-- The entry is a strand of `u` that was none in `s`. -/
abbrev Strands (s u : State) (e : EntryIx) : Prop :=
  (u.entries[e]).any CaptureEntry.isStrand = true ∧ (s.entries[e]).any CaptureEntry.isStrand = false

/-- The entries of `u` are what the removal of the records of the pairs `gone` leaves of those of `s`. The strands that it
forms take the next sequence numbers, a different one each, the CAPTURED entries in the order of their allocation and the
FILLING one after them (R77, R92). -/
abbrev EntriesLeft (gone : Pair → Bool) (s u : State) : Prop :=
  ∃ number : EntryIx → Nat,
    (∀ e : EntryIx, u.entries[e] = (s.entries[e]).bind (entryAfterRemoval s gone (number e))) ∧
    u.strandCounter = s.strandCounter + (List.finRange 32).countP (fun e : EntryIx => decide (Strands s u e)) ∧
    (∀ e : EntryIx, Strands s u e → s.strandCounter ≤ number e ∧ number e < u.strandCounter) ∧
    (∀ e d : EntryIx, Strands s u e → Strands s u d → number e = number d → e = d) ∧
    ∀ e d : EntryIx, Strands s u e → Strands s u d → ∀ c ∈ s.entries[e], ∀ b ∈ s.entries[d], c.isCaptured = true →
      b.isFilling = true ∨ c.allocation < b.allocation → number e < number d

/-- The open access of `u` is what the removal of the records of the pairs `gone` leaves of that of `s`: a read open for one
of them is marked removed with a beat in flight and ends without; a write, and a read whose record went before, stay as they
are (R48, R156, R157). -/
abbrev AccessLeft (gone : Pair → Bool) (s u : State) : Prop :=
  u.access = s.access.bind fun a =>
    if a.live = true ∧ a.kind = .read ∧ gone a.pair = true then a.flight.map fun _ => { a with live := false } else some a

/-- What the removal of uncommitted records leaves of a reservation: the LOCK-READ's frees it, but that one whose LOCK-WRITE
is ISSUED only loses its lock-read record (R139), and the LOCK-WRITE's frees it (R140). -/
def slotAfterRemoval (s : State) (gone : Pair → Bool) (v : Reservation) : Option Reservation :=
  let read := v.lockRead.any fun t => gone ⟨v.initiator, t⟩
  match v.state with
  | .reserved _ => if read then none else some v
  | .writing t =>
    if gone ⟨v.initiator, t⟩ then none
    else if read then
      if (s.tag ⟨v.initiator, t⟩).any (fun w => decide (w.position = .issued)) then some { v with lockRead := none }
      else none
    else some v

/-- The removal of the records of the pairs `gone` ends the LOCK-WRITE of the pair `q` without write: it is WAITING, it is
not removed itself, and the record that its WRITING reservation names as its lock-read record is (R139). -/
abbrev EndsWithoutWrite (s : State) (gone : Pair → Bool) (q : Pair) : Prop :=
  gone q = false ∧ (s.tag q).any (fun w => decide (w.position = .waiting)) = true ∧
    ∃ k : SlotIx, ∃ v ∈ s.slots[k], v.initiator = q.initiator ∧ v.state = .writing q.tag ∧
      ∃ t ∈ v.lockRead, gone ⟨q.initiator, t⟩ = true

/-- `u` is what removing the uncommitted records of the pairs `gone`, all of one initiator, makes of `s` in one event (R46,
R50, R79, R139, R140, R156), place by place: the pairs are free, and a LOCK-WRITE ended without write is DONE and answered, or
released if it is COMMITTED; reservations, capture entries and the open access are what the removal leaves of them; nothing
else changes. -/
abbrev Removes (gone : Pair → Bool) (s u : State) : Prop :=
  (∀ q : Pair, gone q = true → u.tag q = none) ∧
  (∀ q : Pair, EndsWithoutWrite s gone q → ∀ w ∈ s.tag q,
    u.tag q = (if w.verdict = .committed then none else some { w with position := .done, data := [], response := .sent }) ∧
      u.responses = s.responses ++ [.ack q .lockLost]) ∧
  (∀ q : Pair, gone q = false → ¬EndsWithoutWrite s gone q → u.tag q = s.tag q) ∧
  ((∀ q : Pair, ¬EndsWithoutWrite s gone q) → u.responses = s.responses) ∧
  (∀ k : SlotIx, u.slots[k] = (s.slots[k]).bind (slotAfterRemoval s gone)) ∧
  EntriesLeft gone s u ∧ AccessLeft gone s u ∧
  u = { s with tags := u.tags, slots := u.slots, entries := u.entries, strandCounter := u.strandCounter,
               access := u.access, responses := u.responses }

/-! ## Requests -/

/-- The command of a request of a kind. -/
def requestOf (kind : Kind) (q : Request) : Instr :=
  match kind with
  | .read => .read q
  | .write => .write q
  | .lockRead => .lockRead q
  | .lockWrite => .lockWrite q
  | .unlock => .unlock q

/-- A request of this kind carries data slots (R19). -/
abbrev Carries (kind : Kind) : Prop := kind = .write ∨ kind = .lockWrite

/-- The five ways to be malformed, as R28 lists them; an UNLOCK is so only by carrying data slots. -/
abbrev IllFormed (kind : Kind) (q : Request) : Prop :=
  (kind ≠ .unlock ∧ (q.sizeCode = 3 ∨ q.count = 0 ∨ 8 < q.count.toNat)) ∨
    ((kind = .lockRead ∨ kind = .lockWrite) ∧ q.count ≠ 1) ∨
    (Carries kind ∧ q.slots.length ≠ q.count.toNat) ∨
    (¬Carries kind ∧ q.slots ≠ [])

/-- A burst of the request leaves the host window of an entry: STEP mode, with the last byte outside (R7). -/
abbrev LeavesWindow (e : RegionEntry) (q : Request) : Prop :=
  e.mode = 1 ∧ ¬(e.hostBase.toNat ≤ q.address.toNat + q.count.toNat * (beatSizeOf q.sizeCode).bytes - 1 ∧
    q.address.toNat + q.count.toNat * (beatSizeOf q.sizeCode).bytes - 1 < e.hostBase.toNat + 2 ^ e.hostExp.toNat)

/-- A well-formed request on a free pair while the part is RUNNING: it has passed steps 1 to 3 (R25). -/
abbrev ReachesAddress (kind : Kind) (q : Request) (s : State) : Prop :=
  s.operating = .running ∧ s.tag q.pair = none ∧ ¬IllFormed kind q

/-- A request that has passed steps 1 to 5 with region `r` of class `c` (R25). -/
abbrev ReachesLocks (kind : Kind) (q : Request) (s : State) (r : RegionIx) (c : RegionClass) : Prop :=
  ReachesAddress kind q s ∧ matchRegion s.regions q.address = some (r, c) ∧
    q.address.toNat % (beatSizeOf q.sizeCode).bytes = 0 ∧ ¬LeavesWindow s.regions[r] q ∧ s.drains r = false

/-- The record of a request with these response, place and data, the other fields as a kind of record has them. -/
def recordWith (kind : Kind) (q : Request) (place : Option Place) (order : Nat) : TagRecord :=
  { kind := kind
    place := place
    size := beatSizeOf q.sizeCode
    count := q.count.toNat
    speculative := q.speculative
    verdict := if q.speculative then .none else .committed
    position := .waiting
    response := .pending
    order := order
    data := []
    entry := none
    timer := none
    mark := false }

/-- What the record of a request for the host address `a`, matched by entry `e` of index `r` and class `c`, copies (R6): the
translation of the address is target base + ((a - host base) mod target span) (R5). A mode code that names no mode is read as
FIXED (log entry 12); no valid entry has one. -/
def copiedPlace (e : RegionEntry) (r : RegionIx) (c : RegionClass) (lockLimit : Option (BitVec 10)) (a : Word) : Place :=
  { region := r
    select := e.select
    start := BitVec.ofNat 28 (e.targetBase.toNat + (a.toNat - e.hostBase.toNat) % 2 ^ e.spanExp.toNat)
    cls := c
    mode := if e.mode = 1 then .step else .fixed
    base := e.targetBase
    span := 2 ^ e.spanExp.toNat
    verdictLimit := e.verdictLimit
    strandWindow := e.strandWindow
    lockLimit := lockLimit }

/-- The record joins the tag table and the acceptance counter of its initiator advances (R33). -/
def State.joinedBy (s : State) (q : Request) (r : TagRecord) : State :=
  { s.setTag q.pair (some r) with
    acceptance := s.acceptance.set q.initiator (s.acceptance[q.initiator] + 1) }

/-- What an ERROR at acceptance does: the response, and for a speculative request an error record (R31). -/
def State.refusedWith (s : State) (kind : Kind) (q : Request) (status : Status) : State :=
  let t := s.respond (.error q.pair status)
  if q.speculative then
    t.joinedBy q { recordWith kind q none s.acceptance[q.initiator] with position := .done, response := .sent }
  else t

/-- The verdict timer that a speculative request starts with in a region of this verdict limit (R51). -/
def startTimer (q : Request) (limit : BitVec 12) : Option Nat :=
  if q.speculative = true ∧ limit ≠ 0 then some limit.toNat else none

/-- A granule that another initiator than `i` has reserved on the select holds one of the bytes (R129). -/
abbrev Touches (s : State) (i : Initiator) (select : Select) (bytes : List Nat) : Prop :=
  ∃ k : SlotIx, ∃ r ∈ s.slots[k], r.initiator ≠ i ∧ r.select = select ∧
    ∃ b ∈ bytes, r.granule.toNat ≤ b ∧ b < r.granule.toNat + 8

/-! ## The conditions of a grant -/

/-- The record is WAITING, is no UNLOCK, and meets the verdict condition (R59), the order condition (R60, or R61 for a READ of
a PASS region) and the reservation condition (R62). -/
abbrev MayGoNext (s : State) (p : Pair) (r : TagRecord) (pl : Place) : Prop :=
  r.position = .waiting ∧ r.kind ≠ .unlock ∧
  (r.verdict = .committed ∨ (r.kind = .read ∧ pl.cls ≠ .hold) ∨ (r.kind = .lockRead ∧ pl.cls = .pass)) ∧
  (¬(r.kind = .read ∧ pl.cls = .pass) → ∀ (t : Tag) (w : TagRecord), s.tag ⟨p.initiator, t⟩ = some w →
    w.order < r.order → w.position = .waiting → w.kind = .read ∧ w.place.map (·.cls) = some .pass) ∧
  (r.kind = .read → pl.cls = .pass → ∀ (t : Tag) (w : TagRecord) (x : Place), s.tag ⟨p.initiator, t⟩ = some w →
    w.order < r.order → w.kind = .write ∨ w.kind = .lockWrite → w.position ≠ .done → w.place = some x →
    x.select = pl.select → ∀ a ∈ footprint x w.size w.count, a ∉ footprint pl r.size r.count) ∧
  ¬Touches s p.initiator pl.select (footprint pl r.size r.count)

/-- The record is a guarded read: of a HOLD or CAPTURE region (R2). -/
abbrev IsGuarded (r : TagRecord) (pl : Place) : Prop := (r.kind = .read ∨ r.kind = .lockRead) ∧ pl.cls ≠ .pass

/-- Every strand under the read agrees with it in beat mode, beat size and target start address: none is in conflict (R94). -/
abbrev NoConflict (s : State) (r : TagRecord) (pl : Place) : Prop :=
  ∀ x ∈ s.strandsUnder pl r.size r.count, x.2.mode = pl.mode ∧ x.2.size = r.size ∧ x.2.start = pl.start

/-- The record meets the capture-entry condition (R63, R70). -/
abbrev MayTakeAnEntry (s : State) (r : TagRecord) (pl : Place) : Prop :=
  IsGuarded r pl → NoConflict s r pl →
    if r.verdict = .committed then
      r.count ≤ (takenBeats (s.consumption pl r.size r.count)).length ∨ 1 ≤ s.effectiveFree pl r.size r.count
    else 3 ≤ s.effectiveFree pl r.size r.count

/-! ## Frames -/

/-- A frame is in its command phase: the next command of the port is taken (R161, R162). -/
def State.listens (s : State) : Bool :=
  match s.port with
  | .deselected => false
  | .ignored => false
  | .frame f => decide (f.phase = .command)

/-- The frame after its command has been taken, with the response built (R162). -/
def State.answered (s : State) (code : Byte) (params response : List Byte) : State :=
  { s with
    port := .frame { phase := .turnaround, code := some code, params := params, response := response, sent := 0 } }

/-- A frame may take the command of these bytes: it has received none of its command's bytes, or some of these, from the
first on, and no others (R161, R162). -/
def State.accepts (s : State) (bytes : List Byte) : Bool :=
  match s.port with
  | .deselected => false
  | .ignored => false
  | .frame f =>
    match f.phase with
    | .command => true
    | .parameters => decide (f.code.toList ++ f.params <+: bytes)
    | .turnaround => false
    | .response => false

/-- The state after bytes have been clocked in one after the other. -/
def clockAll (bytes : List Byte) (s : State) : State :=
  bytes.foldl (fun u b => match clockByte b u with
    | .next t => t
    | .fault _ => u
    | .refused _ => u) s

/-- The commands that have parameter bytes, with their number (R165). -/
def parameterTable : List (Byte × Nat) :=
  [(0x03, 3), (0x10, 16), (0x11, 1), (0x12, 1), (0x13, 2), (0x20, 2), (0x21, 1), (0x30, 7), (0x31, 1)]

/-- The statuses of a response in the order of their codes, from 0 on (R24). -/
def statusNames : List Status :=
  [.ok, .targetError, .targetTimeout, .unmapped, .misaligned, .splitRegion, .badRequest, .mismatch, .lockDenied, .lockLost,
    .abandoned]

/-- The reasons of a RETRY in the order of their codes, from 0 on (R24). -/
def reasonNames : List Reason := [.notRunning, .draining, .reserved, .locksFull]

/-! ## Layouts (R166 to R170, R173) -/

/-- The `n` bits from bit `lo` of byte `k` on, as a number. -/
def bitsAt (bs : List Byte) (k lo n : Nat) : Nat := (bs.getD k 0).toNat / 2 ^ lo % 2 ^ n

/-- The little-endian field of `n` bytes at byte `k`. -/
def littleAt (bs : List Byte) (k n : Nat) : Nat :=
  ((List.range n).map fun j => (bs.getD (k + j) 0).toNat * 256 ^ j).sum

/-- The bytes are the region record of an entry (R166). -/
abbrev RegionLayout (r : RegionIx) (e : RegionEntry) (bs : List Byte) : Prop :=
  bs.length = 16 ∧ bitsAt bs 0 0 4 = r.val ∧ bitsAt bs 0 4 3 = e.cls.toNat ∧ bitsAt bs 0 7 1 = e.lock.toNat ∧
  littleAt bs 1 1 = e.hostExp.toNat ∧ littleAt bs 2 1 = e.spanExp.toNat ∧ littleAt bs 3 4 = e.hostBase.toNat ∧
  littleAt bs 7 4 % 2 ^ 28 = e.targetBase.toNat ∧ bitsAt bs 10 4 2 = e.select.val ∧ bitsAt bs 10 6 2 = e.mode.toNat ∧
  littleAt bs 11 3 % 2 ^ 12 = e.verdictLimit.toNat ∧ littleAt bs 11 3 / 2 ^ 12 = e.lockLimit.toNat ∧
  littleAt bs 14 2 = e.strandWindow.toNat

/-- The bytes are the status record of the part (R167). Counts that the laws of the part bound are given within their
fields. -/
abbrev StatusLayout (s : State) (bs : List Byte) : Prop :=
  bs.length = 22 ∧
  littleAt bs 0 1 = (match s.operating with
    | .loading => 0
    | .held => 1
    | .running => 2) ∧
  littleAt bs 1 1 = (match s.image with
    | .loading => 0
    | .valid => 1
    | .absent => 2
    | .corrupt => 3
    | .notRead => 4) ∧
  (s.apply = .idle → littleAt bs 2 1 = 0) ∧
  (∀ (r : RegionIx) (n : Nat), s.apply = .draining r n → bitsAt bs 2 0 4 = 1 ∧ bitsAt bs 2 4 4 = r.val) ∧
  littleAt bs 3 1 = (List.finRange 32).countP (fun e : EntryIx => decide (s.entries[e] = none)) ∧
  littleAt bs 4 1 = (List.finRange 32).countP (fun e : EntryIx => (s.entries[e]).any CaptureEntry.isStrand) ∧
  littleAt bs 5 2 = ((List.finRange 32).map fun e : EntryIx =>
    ((s.entries[e]).filter CaptureEntry.isStrand).elim 0 fun c => c.beats.length).sum % 2 ^ 16 ∧
  (∀ i : Initiator, littleAt bs (7 + i.val) 1 = (List.finRange 16).countP fun t : Tag => (s.tag ⟨i, t⟩).isSome) ∧
  littleAt bs 15 1 = (List.finRange 4).countP (fun k : SlotIx => (s.slots[k]).isSome) ∧
  littleAt bs 16 1 = s.events.length % 2 ^ 8 ∧
  bitsAt bs 17 0 1 = s.overflow.toNat ∧ bitsAt bs 17 1 1 = s.latch.toNat ∧ bitsAt bs 17 2 6 = s.alert.toNat ∧
  littleAt bs 18 4 = s.timebase.toNat

/-- The bytes are the tag record of a live record (R168). -/
abbrev TagLayout (r : TagRecord) (bs : List Byte) : Prop :=
  bs.length = 48 ∧ littleAt bs 0 1 = 1 ∧
  littleAt bs 1 1 = (match r.kind with
    | .read => 0
    | .write => 1
    | .lockRead => 2
    | .lockWrite => 3
    | .unlock => 4) ∧
  bitsAt bs 2 0 1 = r.speculative.toNat ∧ bitsAt bs 2 1 1 = (decide (r.verdict = .committed)).toNat ∧
  bitsAt bs 2 2 2 = (match r.position with
    | .waiting => 0
    | .issued => 1
    | .done => 2) ∧
  bitsAt bs 2 4 1 = (decide (r.response = .sent)).toNat ∧ bitsAt bs 2 5 1 = r.mark.toNat ∧
  bitsAt bs 2 6 1 = r.place.isSome.toNat ∧ bitsAt bs 2 7 1 = r.entry.isSome.toNat ∧
  (r.place = none → littleAt bs 3 1 = 0 ∧ bitsAt bs 4 3 1 = 0 ∧ littleAt bs 5 4 = 0) ∧
  (∀ pl ∈ r.place, bitsAt bs 3 0 4 = pl.region.val ∧ bitsAt bs 3 4 2 = pl.select.val ∧
    bitsAt bs 3 6 2 = (match pl.cls with
      | .pass => 1
      | .hold => 2
      | .capture => 3) ∧
    bitsAt bs 4 3 1 = (decide (pl.mode = .step)).toNat ∧ littleAt bs 5 4 = pl.start.toNat) ∧
  bitsAt bs 4 0 3 = r.size.bytes ∧ bitsAt bs 4 4 4 = r.count % 2 ^ 4 ∧ littleAt bs 9 4 = r.order % 2 ^ 32 ∧
  littleAt bs 13 1 = r.entry.elim 0 (·.val) ∧ littleAt bs 14 2 = r.timer.elim 0xFFFF (· % 2 ^ 16) ∧
  ∀ k : Fin 8, littleAt bs (16 + 4 * k.val) 4 = (r.data.getD k.val 0).toNat

/-- The bytes are the capture record of an entry that is not FREE (R169). -/
abbrev EntryLayout (c : CaptureEntry) (bs : List Byte) : Prop :=
  bs.length = 48 ∧
  (match c.state with
    | .filling b n => bitsAt bs 0 0 7 = 1 ∧ bitsAt bs 0 7 1 = b.isSome.toNat ∧ littleAt bs 8 1 = n % 2 ^ 8 ∧
        (b = none → littleAt bs 1 1 = 0) ∧
        (∀ p ∈ b, bitsAt bs 1 0 4 = p.initiator.val ∧ bitsAt bs 1 4 4 = p.tag.val) ∧
        littleAt bs 9 4 = 0 ∧ littleAt bs 13 3 = 0xFFFFFF
    | .captured p => bitsAt bs 0 0 7 = 2 ∧ bitsAt bs 0 7 1 = 1 ∧ bitsAt bs 1 0 4 = p.initiator.val ∧
        bitsAt bs 1 4 4 = p.tag.val ∧ littleAt bs 8 1 = 0 ∧ littleAt bs 9 4 = 0 ∧ littleAt bs 13 3 = 0xFFFFFF
    | .stranded n t => littleAt bs 0 1 = 3 ∧ littleAt bs 1 1 = 0 ∧ littleAt bs 8 1 = 0 ∧ littleAt bs 9 4 = n % 2 ^ 32 ∧
        littleAt bs 13 3 = t.elim 0xFFFFFF (· % 2 ^ 24)) ∧
  bitsAt bs 2 0 4 = c.region.val ∧ bitsAt bs 2 4 2 = c.select.val ∧ bitsAt bs 2 6 2 = (decide (c.mode = .step)).toNat ∧
  bitsAt bs 3 0 4 = c.size.bytes ∧ bitsAt bs 3 4 4 = c.beats.length % 2 ^ 4 ∧ littleAt bs 4 4 = c.start.toNat ∧
  ∀ k : Fin 8, littleAt bs (16 + 4 * k.val) 4 = (c.beats.getD k.val 0).toNat

/-- The bytes are the slot record of a reservation (R170). -/
abbrev SlotLayout (v : Reservation) (bs : List Byte) : Prop :=
  (match v.state with
    | .reserved n => littleAt bs 0 1 = 1 ∧ littleAt bs 7 2 = n % 2 ^ 16 ∧ littleAt bs 10 1 = 0
    | .writing t => littleAt bs 0 1 = 2 ∧ littleAt bs 7 2 = 0xFFFF ∧ bitsAt bs 10 0 7 = t.val ∧ bitsAt bs 10 7 1 = 1) ∧
  bitsAt bs 1 0 4 = v.initiator.val ∧ bitsAt bs 1 4 4 = v.select.val ∧ littleAt bs 2 1 = v.region.val ∧
  littleAt bs 3 4 = v.granule.toNat ∧ (v.lockRead = none → littleAt bs 9 1 = 0) ∧
  (∀ t ∈ v.lockRead, bitsAt bs 9 0 7 = t.val ∧ bitsAt bs 9 7 1 = 1) ∧ littleAt bs 11 1 = 0

/-- The event kinds in the order of their numbers, from 1 on (R173). -/
def eventKinds : List EventKind :=
  [.strandExpired, .strandsDiscarded, .strandMismatch, .readFault, .writeFault, .verdictTimeout, .verdictUnknown,
    .verdictConflict, .tagReuse, .unmapped, .lockBroken, .captureExhausted, .hostReset, .applyDone, .applyTimeout,
    .imageAbsent, .imageCorrupt]

/-- The bytes are an event record (R173). -/
abbrev EventLayout (e : EventRecord) (bs : List Byte) : Prop :=
  bs.length = 16 ∧ eventKinds[littleAt bs 0 1 - 1]? = some e.kind ∧ 1 ≤ littleAt bs 0 1 ∧
  bitsAt bs 1 0 4 = e.initiator.val ∧ bitsAt bs 1 4 4 = e.select.val ∧ littleAt bs 2 1 = e.tag.toNat ∧
  littleAt bs 3 1 = e.region.val ∧ littleAt bs 4 4 = e.timestamp.toNat ∧ littleAt bs 8 4 = e.address.toNat ∧
  littleAt bs 12 2 = e.countA.toNat ∧ littleAt bs 14 2 = e.countB.toNat

end Sys2Proof.Machine
end

