-- ==== Sys2Proof/WellFormed.lean ====
section
/-! DEFINITION. Which commands can be written on the ports at all. `exec` is total and gives every command a
meaning, ill-formed ones included; the checks say which of them the ports can carry. -/

namespace Sys2Proof

/-- A message carries 0 to 15 data slots (R24). -/
def Request.wellFormed (r : Request) : Bool := decide (r.slots.length ≤ 15)

/-- The body of an image of `n` region records has `16 n + 2` bytes, `n` at most 16 (R182); a read that ends
at its header has none (R181). -/
def bodyLengthOk (n : Nat) : Bool := decide (n = 0) || (decide (n ≤ 258) && decide (n % 16 = 2))

/-- The commands that the ports can carry. -/
def Instr.wellFormed : Instr → Bool
  | .read r => r.wellFormed
  | .write r => r.wellFormed
  | .lockRead r => r.wellFormed
  | .lockWrite r => r.wellFormed
  | .unlock r => r.wellFormed
  | .unknownCommand code => !Config.commandCodes.contains code
  | .endOfLoading body => bodyLengthOk body.length
  | .powerOnReset _ => true
  | .hostLinkReset => true
  | .commit _ => true
  | .kill _ => true
  | .flush _ => true
  | .verdictTimerExpiry _ => true
  | .strandTimerExpiry _ => true
  | .lockTimerExpiry _ => true
  | .drainTimerExpiry => true
  | .waitTimerExpiry => true
  | .timebaseTick => true
  | .drainComplete => true
  | .grant => true
  | .beatIssue => true
  | .targetReady _ => true
  | .targetError _ => true
  | .strayAnswer _ => true
  | .unlockPerform _ => true
  | .getStatus => true
  | .takeEvent => true
  | .setAlertMask _ => true
  | .clearOverflow => true
  | .stageRegion _ => true
  | .applyRegion _ => true
  | .readRegion _ => true
  | .setSelect _ _ => true
  | .readTag _ _ => true
  | .readCapture _ => true
  | .readReservations => true
  | .discardStrands _ _ _ _ => true
  | .breakLock _ => true
  | .hold => true
  | .release => true
  | .frameEnd => true
  | .headerReadDone _ => true
  | .frameStart => true

end Sys2Proof
end

