-- ==== Sys2Proof/Certificates/Slice0/Obligations.lean ====
section
/-! DEFINITION. The statements to be proved about the model, in the order of OBLIGATIONS.json. A docstring names the
rule of the manual that a statement formalises. `settle s u` stands for the rest of the event that began at `s` and whose
own effects led to `u` (the UNLOCKs, the drain and the latch that the event makes due); the statements under "the rest of
an event" say what it does, and that it does nothing where nothing is due. -/

open Sys2Proof Sys2Proof.Machine

/-! ## The step -/

/-- A step takes the command at the front of the queue and is its execution on the state with the queue's rest. On an
empty queue the next byte on data in is clocked, and with none the part idles: that is the model's choice (log entries 5
and 9). -/
def Obligations.StepTakesTheFrontCommand : Prop :=
  (∀ (c : Instr) (rest : List Instr) (s : State), s.pending = c :: rest → step s = exec c { s with pending := rest }) ∧
  ∀ s : State, s.pending = [] →
    (s.dataIn = [] → step s = .next s) ∧
    ∀ (b : Byte) (rest : List Byte), s.dataIn = b :: rest → step s = clockByte b { s with dataIn := rest }

/-- Every command completes in every state and leaves the queue and data in alone; and each setting and each counter is changed by its
own rows alone (R9, R10, R33, R91, R92, R147, R158, R176, R179, R185 to R187). That a row whose occasion does not hold
completes, and changes nothing, is the model's choice (log entry 3). -/
def Obligations.SettingsChangeByTheirOwnRows : Prop :=
  ∀ (c : Instr) (s : State), ∃ t : State, exec c s = .next t ∧ t.pending = s.pending ∧ t.dataIn = s.dataIn ∧
    ((∀ b, c ≠ .powerOnReset b) →
      (t.operating ≠ s.operating → c = .hold ∨ c = .release ∨ ∃ body, c = .endOfLoading body) ∧
      (t.image ≠ s.image ∨ t.divider ≠ s.divider ∨ t.drainLimit ≠ s.drainLimit → ∃ body, c = .endOfLoading body) ∧
      (t.boot ≠ s.boot → (∃ h, c = .headerReadDone h) ∨ ∃ body, c = .endOfLoading body) ∧
      (t.waitLimits ≠ s.waitLimits → (∃ k l, c = .setSelect k l) ∨ ∃ body, c = .endOfLoading body) ∧
      (t.timebase ≠ s.timebase → c = .timebaseTick) ∧
      (t.alertMask ≠ s.alertMask → ∃ m, c = .setAlertMask m) ∧
      (t.staging ≠ s.staging → ∃ record, c = .stageRegion record) ∧
      (t.pointer ≠ s.pointer ∨ t.allocations ≠ s.allocations → c = .grant) ∧
      (t.acceptance ≠ s.acceptance → ∃ kind q, c = requestOf kind q) ∧
      s.strandCounter ≤ t.strandCounter ∧
      (t.strandCounter ≠ s.strandCounter → (∃ p, c = .kill p ∨ c = .flush p ∨ c = .verdictTimerExpiry p) ∨
        c = .hostLinkReset ∨ (∃ w, c = .targetReady w) ∨ (∃ b, c = .targetError b) ∨ c = .waitTimerExpiry ∨
        c = .timebaseTick) ∧
      (t.port ≠ s.port → c = .frameStart ∨ c = .frameEnd ∨ (encodeFrame c).isSome = true))

/-! ## The rest of an event -/

/-- The rest of an event (R14, R82, R83, R105, R141), which `settle s u` makes of `u`. While an UNLOCK is ready it is
performed, of the lowest initiator first: its initiator's RESERVED reservation is freed and a WRITING one left, with ACK OK,
and with none the ACK is LOCK_LOST or OK by the lock-lost flag, which is cleared. Then a drain that is due is completed: the
entry takes the staging record, the strands of the index go, STRANDS_DISCARDED gives their number and their beats if there
was one, and APPLY_DONE is raised. Then, and at once where nothing is due, the exhaustion latch follows: a clear latch is set
where a read is newly stalled, with the record of the first of them in turn, and clears where the free count has risen to 4
or more; else nothing changes. The order of UNLOCKs of several initiators (log entry 10), and that the latch is judged and
its record raised last (log entry 7), are the model's choice. -/
def Obligations.SettledEventsOnlyMoveTheLatch : Prop :=
  ∀ s u : State,
    (∀ (i : Initiator) (p : Pair), Lawful u → u.readyUnlock i = some p → (∀ j : Initiator, j < i → u.readyUnlock j = none) →
      let gone := u.setTag p none
      (∀ (k : SlotIx) (v : Reservation), u.slots[k] = some v → v.initiator = i →
        (∀ n : Nat, v.state = .reserved n → settle s u = settle s ((gone.setSlot k none).respond (.ack p .ok))) ∧
        ∀ t : Tag, v.state = .writing t → settle s u = settle s (gone.respond (.ack p .ok))) ∧
      ((∀ k : SlotIx, ∀ v ∈ u.slots[k], v.initiator ≠ i) → settle s u = settle s
        ((gone.setLockLost i false).respond (.ack p (if u.lockLost[i] = true then .lockLost else .ok))))) ∧
    (∀ (r : RegionIx) (n : Nat), (∀ i : Initiator, u.readyUnlock i = none) → u.apply = .draining r n → u.useCount r = 0 →
      ∃ w : State, w.apply = .idle ∧
        (∀ q : RegionIx, w.regions[q] = if q = r then u.staging else u.regions[q]) ∧
        (∀ e : EntryIx, w.entries[e] =
          if (u.entries[e]).any (fun c => c.isStrand && decide (c.region = r)) then none else u.entries[e]) ∧
        w = { u with apply := w.apply, regions := w.regions, entries := w.entries } ∧
        let gone := u.entriesWhere fun c => c.isStrand && decide (c.region = r)
        let discarded := if gone = [] then w else
          w.raise { kind := .strandsDiscarded, region := r, countA := BitVec.ofNat 16 gone.length,
                    countB := BitVec.ofNat 16 ((gone.map fun x => x.2.beats.length).sum) }
        settle s u = followLatch s (discarded.raise { kind := .applyDone, region := r })) ∧
    (Settled u → settle s u = followLatch s u) ∧
    (u.latch = true ∨ (∀ p : Pair, u.stalled p = true → s.stalled p = true) → followLatch s u =
      { u with latch := if s.freeCount < 4 ∧ 4 ≤ u.freeCount then false else u.latch }) ∧
    (u.latch = false → (∃ p : Pair, u.stalled p = true ∧ s.stalled p = false) →
      ∃ (p : Pair) (r : TagRecord) (pl : Place), u.stalled p = true ∧ s.stalled p = false ∧ u.tag p = some r ∧
        r.place = some pl ∧
        (∀ (q : Pair) (v : TagRecord), u.stalled q = true → s.stalled q = false → u.tag q = some v →
          (p.initiator - u.pointer).val ≤ (q.initiator - u.pointer).val ∧
          (q.initiator = p.initiator → r.order ≤ v.order)) ∧
        followLatch s u =
          { u.raise { kind := .captureExhausted, initiator := p.initiator, select := pl.select,
                      tag := BitVec.ofNat 8 p.tag.val, region := pl.region, address := pl.start.setWidth 32,
                      countA := BitVec.ofNat 16 (u.entriesWhere CaptureEntry.isStrand).length,
                      countB := BitVec.ofNat 16 (u.entriesWhere CaptureEntry.isCaptured).length } with latch := true }) ∧
    (Settled u → (∀ p : Pair, u.stalled p = true → s.stalled p = true) → (4 ≤ u.freeCount → 4 ≤ s.freeCount) →
      settle s u = u)

/-- After any step from a settled state nothing is due: an UNLOCK is performed within the event that makes it ready
(R141), and a drain is completed within the event that ends the last use (R14). By R188 no timer stays at its limit either:
where every limit is at least 1 and no timer is due, a step leads to such a state, so that an expiry comes at its tick. -/
def Obligations.StepsStaySettled : Prop :=
  (∀ s t : State, Settled s → step s = .next t → Settled t) ∧
  ∀ s t : State, TimerLaw s → step s = .next t → TimerLaw t

/-- R82 and R83: a read is held back by the capture-entry condition alone (`stalled`) if it is COMMITTED and meets every
other condition of a grant. The latch is set only with such a read that has come to be held back so, its effective free count
being 0; the read is named by a CAPTURE_EXHAUSTED record with the numbers of STRANDED and CAPTURED entries, which a full queue
refuses with the overflow flag set. A set latch clears exactly at an event
at which the free count rises to 4 or more; a power-on reset clears it too. The expiries of a tick are events of their own,
each with a row that this holds of (ATickCountsEveryTimer). That the record is the last of its event, and that the latch
clears also at a host-link reset which completes a drain whose discards raise the free count so, where R81 and R84 speak for
unchanged, are the model's choice (log entry 7). -/
def Obligations.TheLatchReportsExhaustion : Prop :=
  (∀ (p : Pair) (s : State), s.stalled p = true ↔ ∃ (r : TagRecord) (pl : Place), s.tag p = some r ∧ r.place = some pl ∧
    r.verdict = .committed ∧ MayGoNext s p r pl ∧ ¬MayTakeAnEntry s r pl) ∧
  ∀ (c : Instr) (s t : State), exec c s = .next t → (∀ b, c ≠ .powerOnReset b) → c ≠ .timebaseTick →
    (s.latch = true → (t.latch = false ↔ s.freeCount < 4 ∧ 4 ≤ t.freeCount)) ∧
    (s.latch = false → t.latch = true →
      ∃ (p : Pair) (r : TagRecord) (pl : Place), t.tag p = some r ∧ r.place = some pl ∧ r.verdict = .committed ∧
        t.stalled p = true ∧ s.stalled p = false ∧ t.effectiveFree pl r.size r.count = 0 ∧
        (t.events.getLast? = some
            { kind := .captureExhausted, initiator := p.initiator, select := pl.select, tag := BitVec.ofNat 8 p.tag.val,
              region := pl.region, timestamp := t.timebase, address := pl.start.setWidth 32,
              countA := BitVec.ofNat 16 (t.entriesWhere CaptureEntry.isStrand).length,
              countB := BitVec.ofNat 16 (t.entriesWhere CaptureEntry.isCaptured).length } ∨
          16 ≤ t.events.length ∧ t.overflow = true))

/-! ## Requests at acceptance -/

/-- Steps 1 and 2 of R25 (R23, R26, R27): outside RUNNING a request of any kind, whatever it names, is answered RETRY
NOT_RUNNING; in RUNNING one that names a live pair is discarded without a response, and TAG_REUSE names the pair. Nothing
else changes. -/
def Obligations.RequestsTurnedAway : Prop :=
  ∀ (kind : Kind) (q : Request) (s : State), Settled s →
    (s.operating ≠ .running → exec (requestOf kind q) s = .next (s.respond (.retry q.pair .notRunning))) ∧
    (s.operating = .running → (s.tag q.pair).isSome = true → exec (requestOf kind q) s =
      .next (s.raise { kind := .tagReuse, initiator := q.initiator, tag := BitVec.ofNat 8 q.tag.val }))

/-- R28: a malformed request is answered ERROR BAD_REQUEST, before any check of its address; a speculative one leaves an
error record (R31). -/
def Obligations.MalformedRequestsAreBad : Prop :=
  ∀ (kind : Kind) (q : Request) (s : State), Settled s → s.operating = .running → s.tag q.pair = none →
    IllFormed kind q → exec (requestOf kind q) s = .next (s.refusedWith kind q .badRequest)

/-- R4, with the codes of R166: the matching entry is the lowest whose class code is 1, PASS, 2, HOLD, or 3, CAPTURE, and
whose host window, of the host size from the host base on, contains the address. An OFF entry matches none (R4). That an entry
of class code 4 to 7, which is not OFF and names no class, matches none either is the model's choice (log entry 12); R8 keeps
such an entry out of the region table. -/
def Obligations.TheLowestWindowMatches : Prop :=
  ∀ (regions : Vector RegionEntry 16) (a : Word),
    let named := fun q : RegionIx => regions[q].cls = 1 ∨ regions[q].cls = 2 ∨ regions[q].cls = 3
    let inside := fun q : RegionIx =>
      regions[q].hostBase.toNat ≤ a.toNat ∧ a.toNat < regions[q].hostBase.toNat + 2 ^ regions[q].hostExp.toNat
    (∀ (r : RegionIx) (c : RegionClass), matchRegion regions a = some (r, c) ↔
      (regions[r].cls = match c with
        | .pass => 1
        | .hold => 2
        | .capture => 3) ∧ inside r ∧ ∀ q : RegionIx, q < r → ¬(named q ∧ inside q)) ∧
    (matchRegion regions a = none ↔ ∀ q : RegionIx, ¬(named q ∧ inside q))

/-- R7: UNMAPPED, MISALIGNED and SPLIT_REGION in their order, before the draining check and the lock checks; only UNMAPPED
raises an event, with the host address in the target address field. -/
def Obligations.AddressErrorsInOrder : Prop :=
  ∀ (kind : Kind) (q : Request) (s : State), kind ≠ .unlock → Settled s → ReachesAddress kind q s →
    (matchRegion s.regions q.address = none → exec (requestOf kind q) s =
      .next ((s.refusedWith kind q .unmapped).raise
        { kind := .unmapped, initiator := q.initiator, tag := BitVec.ofNat 8 q.tag.val, address := q.address })) ∧
    ∀ (r : RegionIx) (c : RegionClass), matchRegion s.regions q.address = some (r, c) →
      (q.address.toNat % (beatSizeOf q.sizeCode).bytes ≠ 0 →
        exec (requestOf kind q) s = .next (s.refusedWith kind q .misaligned)) ∧
      (q.address.toNat % (beatSizeOf q.sizeCode).bytes = 0 → LeavesWindow s.regions[r] q →
        exec (requestOf kind q) s = .next (s.refusedWith kind q .splitRegion))

/-- R13 and step 6 of R29 for READ and WRITE: a region drains while the apply state is DRAINING for it; a request to the
draining region is answered RETRY DRAINING, and a READ or WRITE that touches a granule another initiator has reserved RETRY RESERVED; nothing else changes (R23). -/
def Obligations.ClosedRegionsAndGranulesRetry : Prop :=
  (∀ (r : RegionIx) (s : State), s.drains r = true ↔ ∃ n : Nat, s.apply = .draining r n) ∧
  ∀ (kind : Kind) (q : Request) (s : State) (r : RegionIx) (c : RegionClass), kind ≠ .unlock → Settled s →
    ReachesAddress kind q s → matchRegion s.regions q.address = some (r, c) →
    q.address.toNat % (beatSizeOf q.sizeCode).bytes = 0 → ¬LeavesWindow s.regions[r] q →
    (s.drains r = true → exec (requestOf kind q) s = .next (s.respond (.retry q.pair .draining))) ∧
    (s.drains r = false → kind = .read ∨ kind = .write →
      Touches s q.initiator s.regions[r].select
        (footprint (copiedPlace s.regions[r] r c none q.address) (beatSizeOf q.sizeCode) q.count.toNat) →
      exec (requestOf kind q) s = .next (s.respond (.retry q.pair .reserved)))

/-- R3, R5, R6 and R30 for a READ: a WAITING record with the next order number, its verdict by its flag, and no response yet;
it copies its region's index, class, beat mode and limits and the translation of its address, and its footprint is the bytes
of its beats. The event may show that a committed read is stalled, and changes nothing else. -/
def Obligations.ReadsAreTaken : Prop :=
  ∀ (q : Request) (s : State) (r : RegionIx) (c : RegionClass), Settled s → ReachesLocks .read q s r c →
    let pl := copiedPlace s.regions[r] r c none q.address
    let size := beatSizeOf q.sizeCode
    (¬Touches s q.initiator pl.select (footprint pl size q.count.toNat) →
      exec (.read q) s = .next (followLatch s
        (s.joinedBy q { recordWith .read q (some pl) s.acceptance[q.initiator] with
            timer := startTimer q s.regions[r].verdictLimit }))) ∧
    (s.regions[r].valid = true → pl.start.toNat = s.regions[r].targetBase.toNat +
      (q.address.toNat - s.regions[r].hostBase.toNat) % 2 ^ s.regions[r].spanExp.toNat) ∧
    ∀ a : Nat, a ∈ footprint pl size q.count.toNat ↔
      match pl.mode with
      | .fixed => pl.start.toNat ≤ a ∧ a < pl.start.toNat + size.bytes
      | .step => ∃ b : Nat, b < q.count.toNat ∧
          let first := pl.base.toNat + (pl.start.toNat - pl.base.toNat + b * size.bytes) % pl.span
          first ≤ a ∧ a < first + size.bytes

/-- R5, R6, R30, R110 and R111 for a WRITE: its record copies what a READ's does and holds the low-order bytes of its data
slots, and it is answered ACK OK in the same event; nothing reaches the target. -/
def Obligations.WritesArePosted : Prop :=
  ∀ (q : Request) (s : State) (r : RegionIx) (c : RegionClass), Settled s → ReachesLocks .write q s r c →
    let pl := copiedPlace s.regions[r] r c none q.address
    ¬Touches s q.initiator pl.select (footprint pl (beatSizeOf q.sizeCode) q.count.toNat) →
    exec (.write q) s = .next
      ((s.joinedBy q { recordWith .write q (some pl) s.acceptance[q.initiator] with
            timer := startTimer q s.regions[r].verdictLimit
            response := .sent
            data := q.slots.map fun w =>
              BitVec.ofNat 32 (w.toNat % 2 ^ (8 * (beatSizeOf q.sizeCode).bytes)) }).respond (.ack q.pair .ok))

/-- R131: the four checks of a LOCK-READ in their order, and what its taking does: its record copies what a READ's does and
the lock limit (R6), the lowest free slot holds the reservation of the granule of its first byte, the lock timer starts, and
the lock-lost flag is cleared. -/
def Obligations.LockReadsReserve : Prop :=
  ∀ (q : Request) (s : State) (r : RegionIx) (c : RegionClass), Settled s → ReachesLocks .lockRead q s r c →
    let pl := copiedPlace s.regions[r] r c (some s.regions[r].lockLimit) q.address
    let granule : TAddr := BitVec.ofNat 28 (pl.start.toNat / 8 * 8)
    let holds := ∃ k : SlotIx, ∃ v ∈ s.slots[k], v.initiator = q.initiator
    let other := ∃ k : SlotIx, ∃ v ∈ s.slots[k], v.initiator ≠ q.initiator ∧ v.select = pl.select ∧ v.granule = granule
    (s.regions[r].lock = false ∨ holds → exec (.lockRead q) s = .next (s.refusedWith .lockRead q .lockDenied)) ∧
    (s.regions[r].lock = true → ¬holds →
      (other → exec (.lockRead q) s = .next (s.respond (.retry q.pair .reserved))) ∧
      (¬other → (∀ k : SlotIx, s.slots[k] ≠ none) →
        exec (.lockRead q) s = .next (s.respond (.retry q.pair .locksFull))) ∧
      ∀ k : SlotIx, ¬other → s.slots[k] = none → (∀ j : SlotIx, j < k → s.slots[j] ≠ none) →
        exec (.lockRead q) s = .next (followLatch s
          (((s.joinedBy q { recordWith .lockRead q (some pl) s.acceptance[q.initiator] with
              timer := startTimer q s.regions[r].verdictLimit }).setSlot k
            (some { initiator := q.initiator, select := pl.select, granule := granule, region := r,
                    state := .reserved s.regions[r].lockLimit.toNat, lockRead := some q.tag })).setLockLost
              q.initiator false)))

/-- R136: the five cases of a LOCK-WRITE. Taken, it moves its initiator's reservation to WRITING, which stops the lock timer,
and its response stays PENDING. -/
def Obligations.LockWritesNeedTheirReservation : Prop :=
  ∀ (q : Request) (s : State) (r : RegionIx) (c : RegionClass), Settled s → LockLaw s →
    ReachesLocks .lockWrite q s r c →
    let pl := copiedPlace s.regions[r] r c none q.address
    ((∀ k : SlotIx, ∀ v ∈ s.slots[k], v.initiator ≠ q.initiator) →
      exec (.lockWrite q) s = .next ((s.setLockLost q.initiator false).refusedWith .lockWrite q .lockLost)) ∧
    ∀ (k : SlotIx) (v : Reservation), s.slots[k] = some v → v.initiator = q.initiator →
      (∀ t : Tag, v.state = .writing t → exec (.lockWrite q) s = .next (s.refusedWith .lockWrite q .lockDenied)) ∧
      ∀ n : Nat, v.state = .reserved n →
        (v.select ≠ pl.select ∨ ¬(v.granule.toNat = pl.start.toNat / 8 * 8) →
          exec (.lockWrite q) s = .next (s.refusedWith .lockWrite q .lockDenied)) ∧
        (v.select = pl.select → v.granule.toNat = pl.start.toNat / 8 * 8 →
          exec (.lockWrite q) s = .next
            ((s.joinedBy q { recordWith .lockWrite q (some pl) s.acceptance[q.initiator] with
                timer := startTimer q s.regions[r].verdictLimit
                data := q.slots.map fun w =>
                  BitVec.ofNat 32 (w.toNat % 2 ^ (8 * (beatSizeOf q.sizeCode).bytes)) }).setSlot k
              (some { v with state := .writing q.tag })))

/-- R30 and R141 for an UNLOCK: a speculative one, and one with an older ordered record of its initiator WAITING, joins
without a region index and waits; any other is performed in the event of its acceptance, answered by the reservation its
initiator holds, and released. -/
def Obligations.UnlocksWaitOrAct : Prop :=
  ∀ (q : Request) (s : State), Settled s → Lawful s → ReachesAddress .unlock q s →
    let waits := ∃ t : Tag, ∃ r ∈ s.tag ⟨q.initiator, t⟩,
      r.order < s.acceptance[q.initiator] ∧ ¬(r.kind = .read ∧ r.place.map (·.cls) = some .pass) ∧ r.position = .waiting
    let counted := { s with acceptance := s.acceptance.set q.initiator (s.acceptance[q.initiator] + 1) }
    (q.speculative = true ∨ waits →
      exec (.unlock q) s = .next (s.joinedBy q (recordWith .unlock q none s.acceptance[q.initiator]))) ∧
    (q.speculative = false → ¬waits →
      (∀ (k : SlotIx) (v : Reservation), s.slots[k] = some v → v.initiator = q.initiator →
        (∀ n : Nat, v.state = .reserved n → exec (.unlock q) s =
          .next (settle s ((counted.setSlot k none).respond (.ack q.pair .ok)))) ∧
        ∀ t : Tag, v.state = .writing t → exec (.unlock q) s = .next (counted.respond (.ack q.pair .ok))) ∧
      ((∀ k : SlotIx, ∀ v ∈ s.slots[k], v.initiator ≠ q.initiator) →
        exec (.unlock q) s = .next ((counted.setLockLost q.initiator false).respond
          (.ack q.pair (if s.lockLost[q.initiator] = true then .lockLost else .ok)))))

/-! ## Verdicts -/

/-- R43 and the first sentence of R44: a verdict that names no live record changes nothing and raises VERDICT_UNKNOWN with
its kind code; a KILL or COMMIT of a COMMITTED record changes nothing and raises VERDICT_CONFLICT. -/
def Obligations.VerdictsThatChangeNothing : Prop :=
  ∀ (p : Pair) (s : State),
    let raised := fun (kind : EventKind) (n : Nat) =>
      s.raise { kind := kind, initiator := p.initiator, tag := BitVec.ofNat 8 p.tag.val, countA := BitVec.ofNat 16 n }
    (s.tag p = none → exec (.commit p) s = .next (raised .verdictUnknown 5) ∧
      exec (.kill p) s = .next (raised .verdictUnknown 6) ∧ exec (.flush p) s = .next (raised .verdictUnknown 7)) ∧
    ∀ r : TagRecord, s.tag p = some r → r.verdict = .committed →
      exec (.commit p) s = .next (raised .verdictConflict 5) ∧ exec (.kill p) s = .next (raised .verdictConflict 6)

/-- R45, R76 and R133: a COMMIT sets the verdict and stops the timer; a record that is DONE and SENT is released at once: its
pair is free, its CAPTURED entry is freed, and a reservation that names it as its lock-read record no longer does. -/
def Obligations.CommitSetsOrReleases : Prop :=
  ∀ (p : Pair) (r : TagRecord) (s : State), LockLaw s → s.tag p = some r → r.verdict = .none →
    (¬(r.position = .done ∧ r.response = .sent) →
      exec (.commit p) s = .next (settle s (s.setTag p (some { r with verdict := .committed, timer := none })))) ∧
    (r.position = .done → r.response = .sent →
      let freed := match r.entry with
        | none => s.setTag p none
        | some e => (s.setTag p none).setEntry e none
      ((∀ k : SlotIx, ∀ v ∈ s.slots[k], ¬(v.initiator = p.initiator ∧ v.lockRead = some p.tag)) →
        exec (.commit p) s = .next (settle s freed)) ∧
      ∀ (k : SlotIx) (v : Reservation), s.slots[k] = some v → v.initiator = p.initiator → v.lockRead = some p.tag →
        exec (.commit p) s = .next (settle s (freed.setSlot k (some { v with lockRead := none }))))

/-- R46, R47, R77 and R78: a KILL of an uncommitted READ, WRITE or UNLOCK that is WAITING, and of a DONE record without a
capture entry that no reservation names, frees its pair and leaves nothing. A KILL of a read with a CAPTURED entry makes the
entry a strand with every beat it holds, the next strand sequence number and a fresh timer of its strand window. No response
is sent. Of an uncommitted record of any form, a KILL makes what R46, R79, R139, R140 and R156 give, place by place. -/
def Obligations.KillLeavesNothingOrAStrand : Prop :=
  ∀ (p : Pair) (r : TagRecord) (s : State), Lawful s → s.tag p = some r → r.verdict = .none →
    (r.position = .waiting → r.kind = .read ∨ r.kind = .write ∨ r.kind = .unlock →
      exec (.kill p) s = .next (settle s (s.setTag p none))) ∧
    (r.position = .done → r.entry = none →
      (∀ k : SlotIx, ∀ v ∈ s.slots[k], ¬(v.initiator = p.initiator ∧ v.lockRead = some p.tag)) →
      exec (.kill p) s = .next (settle s (s.setTag p none))) ∧
    (∃ u : State, Removes (fun q => decide (q = p)) s u ∧ exec (.kill p) s = .next (settle s u)) ∧
    ∀ (e : EntryIx) (c : CaptureEntry), r.kind = .read → r.entry = some e → s.entries[e] = some c →
      c.isCaptured = true → exec (.kill p) s = .next (settle s
        { (s.setTag p none).setEntry e (some { c with
            state := .stranded s.strandCounter (if c.window = 0 then none else some c.window.toNat) }) with
          strandCounter := s.strandCounter + 1 })

/-- R48, R79 and R156 at the removal: a KILL of a read whose access is open frees the pair at once. With a beat in flight
the access is marked removed and its entry, if any, is unbound; with none the access ends, and the entry becomes a strand, or
is freed when it holds no beats. A LOCK-READ of a PASS region also frees the RESERVED reservation that names it (R139). -/
def Obligations.KillEndsAnOpenRead : Prop :=
  ∀ (p : Pair) (r : TagRecord) (a : Access) (s : State), Lawful s → s.tag p = some r → r.verdict = .none →
    s.access = some a → a.live = true → a.pair = p →
    (∀ (k : SlotIx) (v : Reservation) (n : Nat), r.kind = .lockRead → a.entry = none → s.slots[k] = some v →
      v.initiator = p.initiator → v.lockRead = some p.tag → v.state = .reserved n →
      let freed := (s.setTag p none).setSlot k none
      (a.flight.isSome = true → exec (.kill p) s = .next (settle s (freed.setAccess (some { a with live := false })))) ∧
      (a.flight = none → exec (.kill p) s = .next (settle s (freed.setAccess none)))) ∧
    (r.kind = .read ∨ (r.kind = .lockRead ∧
        ∀ k : SlotIx, ∀ v ∈ s.slots[k], ¬(v.initiator = p.initiator ∧ v.lockRead = some p.tag)) →
    (a.flight.isSome = true →
      (a.entry = none → exec (.kill p) s =
        .next (settle s ((s.setTag p none).setAccess (some { a with live := false })))) ∧
      ∀ (e : EntryIx) (c : CaptureEntry) (n : Nat), a.entry = some e → s.entries[e] = some c →
        c.state = .filling (some p) n → exec (.kill p) s =
          .next (settle s (((s.setTag p none).setAccess (some { a with live := false })).setEntry e
            (some { c with state := .filling none n })))) ∧
    (a.flight = none →
      (a.entry = none → exec (.kill p) s = .next (settle s ((s.setTag p none).setAccess none))) ∧
      ∀ (e : EntryIx) (c : CaptureEntry), a.entry = some e → s.entries[e] = some c →
        (c.beats = [] → exec (.kill p) s =
          .next (settle s (((s.setTag p none).setAccess none).setEntry e none))) ∧
        (c.beats ≠ [] → exec (.kill p) s =
          .next (settle s { ((s.setTag p none).setAccess none).setEntry e (some { c with
              state := .stranded s.strandCounter (if c.window = 0 then none else some c.window.toNat) }) with
            strandCounter := s.strandCounter + 1 }))))

/-- R139 and R140: a KILL of a LOCK-READ that is not ISSUED acts on the reservation that names it: a RESERVED one is freed, a
WRITING one is freed with its WAITING LOCK-WRITE ended without write, and one whose LOCK-WRITE is ISSUED is kept without its
lock-read record. A KILL of a WAITING LOCK-WRITE frees the WRITING reservation that names it, and nothing is written. No
lock-lost flag is set and no LOCK_BROKEN raised. -/
def Obligations.KillOfALockedHalf : Prop :=
  ∀ (p : Pair) (r : TagRecord) (k : SlotIx) (v : Reservation) (s : State), Lawful s → s.tag p = some r →
    r.verdict = .none → s.slots[k] = some v → v.initiator = p.initiator →
    (r.kind = .lockRead → r.position ≠ .issued → r.entry = none → v.lockRead = some p.tag →
      (∀ n : Nat, v.state = .reserved n →
        exec (.kill p) s = .next (settle s ((s.setTag p none).setSlot k none))) ∧
      ∀ (t : Tag) (w : TagRecord), v.state = .writing t → s.tag ⟨p.initiator, t⟩ = some w →
        (w.position = .issued →
          exec (.kill p) s = .next (settle s ((s.setTag p none).setSlot k (some { v with lockRead := none })))) ∧
        (w.position = .waiting → exec (.kill p) s =
          .next (settle s ((((s.setTag p none).setSlot k none).setTag ⟨p.initiator, t⟩
            (if w.verdict = .committed then none
             else some { w with position := .done, data := [], response := .sent })).respond
               (.ack ⟨p.initiator, t⟩ .lockLost))))) ∧
    (r.kind = .lockWrite → r.position = .waiting → v.state = .writing p.tag →
      exec (.kill p) s = .next (settle s ((s.setTag p none).setSlot k none)))

/-- R49, R50 and R92: a FLUSH whose anchor is live removes, in one event, every uncommitted record of the initiator at or
after the anchor in order, with what that makes, place by place, of reservations (R139, R140), of capture entries, CAPTURED
and FILLING (R78, R79), and of an open read (R156). It spares the rest: the records of the other initiators and the
initiator's older or COMMITTED ones, but that a WAITING LOCK-WRITE whose LOCK-READ goes is ended without write (R139), and
that a COMMITTED UNLOCK may have become ready and be performed (R141). It raises nothing of its own: what stands in the queue
after it are the records of a drain that it completes and of a stall that it ends in. -/
def Obligations.FlushRemovesTheYounger : Prop :=
  ∀ (p : Pair) (r : TagRecord) (s : State), Lawful s → s.tag p = some r →
    let selected := fun w : TagRecord => w.verdict = .none ∧ r.order ≤ w.order
    let gone := fun q : Pair => decide (q.initiator = p.initiator) && (s.tag q).any fun w => decide (selected w)
    ∃ t u : State, exec (.flush p) s = .next t ∧ t = settle s u ∧ Removes gone s u ∧ t.access = u.access ∧
      (s.apply = .idle → t.entries = u.entries ∧ t.strandCounter = u.strandCounter) ∧
      (∀ k : SlotIx, t.slots[k] = u.slots[k] ∨ (t.slots[k] = none ∧ ∃ v ∈ u.slots[k], (∃ n : Nat, v.state = .reserved n) ∧
        (u.readyUnlock v.initiator).isSome = true)) ∧
      (∀ (q : Pair) (w : TagRecord), s.tag q = some w →
        (q.initiator = p.initiator → selected w → t.tag q = none) ∧
        (q.initiator ≠ p.initiator → Settled s → t.tag q = some w) ∧
        (w.kind = .read ∨ w.kind = .write → w.verdict = .committed ∨ w.order < r.order → t.tag q = some w) ∧
        (q.initiator = p.initiator → ¬selected w →
          (w.kind = .lockRead → t.tag q = some w) ∧
          (w.kind = .unlock → w.verdict = .none → t.tag q = some w) ∧
          (w.kind = .unlock → t.tag q = some w ∨ (t.tag q = none ∧ ∃ status, Response.ack q status ∈ t.responses)) ∧
          (w.kind = .lockWrite →
            let ended := w.position = .waiting ∧ ∃ k : SlotIx, ∃ v ∈ s.slots[k], v.initiator = p.initiator ∧
              v.state = .writing q.tag ∧ ∃ l ∈ v.lockRead, ∃ x ∈ s.tag ⟨p.initiator, l⟩, selected x
            (¬ended → t.tag q = some w) ∧
            (ended → Response.ack q .lockLost ∈ t.responses ∧ t.tag q =
              (if w.verdict = .committed then none
               else some { w with position := .done, data := [], response := .sent }))))) ∧
      (∃ more : List EventRecord, t.events = s.events ++ more ∧ ∀ e ∈ more,
        e.kind = .captureExhausted ∨ (s.apply ≠ .idle ∧ (e.kind = .strandsDiscarded ∨ e.kind = .applyDone)))

/-- R117: a COMMITTED WRITE is removed by no verdict and no verdict timer, and keeps every field. -/
def Obligations.CommittedWritesStay : Prop :=
  ∀ (q p : Pair) (w : TagRecord) (s t : State), Lawful s → s.tag q = some w → w.kind = .write →
    w.verdict = .committed →
    exec (.commit p) s = .next t ∨ exec (.kill p) s = .next t ∨ exec (.flush p) s = .next t ∨
      exec (.verdictTimerExpiry p) s = .next t → t.tag q = some w

/-- R80 at a throwing-away: a KILL, a FLUSH, a verdict timer and a host-link reset lose no beat that a capture entry holds:
with no region change in progress every entry keeps its beats. -/
def Obligations.ThrowingAwayLosesNoBeat : Prop :=
  ∀ (c : Instr) (s t : State), Lawful s → s.apply = .idle →
    (∃ p, c = .kill p ∨ c = .flush p ∨ c = .verdictTimerExpiry p) ∨ c = .hostLinkReset →
    exec c s = .next t → ∀ e : EntryIx, (t.entries[e]).elim [] (·.beats) = (s.entries[e]).elim [] (·.beats)

/-! ## Timers -/

/-- R187 and R188: a tick advances the 32-bit counter, wrapping, and counts every running timer down; then every timer that
has reached its limit (`due`) expires at that tick, by its own row's effect, and none is due after it. The order of the
expiries of one tick, and that the counter advances before them, so that the records they raise carry the advanced counter,
are the model's choice (log entry 6). -/
def Obligations.ATickCountsEveryTimer : Prop :=
  (∀ T : Timer, T ∈ allTimers) ∧
  (∀ (T : Timer) (s : State), s.due T = true ↔ match T with
    | .verdict p => ∃ r ∈ s.tag p, r.timer = some 0 ∧ r.verdict = .none
    | .strand e => ∃ c ∈ s.entries[e], ∃ n : Nat, c.state = .stranded n (some 0)
    | .lock k => ∃ v ∈ s.slots[k], v.state = .reserved 0
    | .drain => ∃ r : RegionIx, s.apply = .draining r 0
    | .wait => ∃ a ∈ s.access, ∃ f ∈ a.flight, f.timer = 0) ∧
  ∀ s : State, ∃ u : State,
    u.timebase = s.timebase + 1 ∧
    (∀ p : Pair, u.tag p = (s.tag p).map fun r => { r with timer := r.timer.map (· - 1) }) ∧
    (∀ e : EntryIx, u.entries[e] = (s.entries[e]).map fun c =>
      { c with state := match c.state with
        | .stranded n (some k) => .stranded n (some (k - 1))
        | other => other }) ∧
    (∀ k : SlotIx, u.slots[k] = (s.slots[k]).map fun r =>
      { r with state := match r.state with
        | .reserved n => .reserved (n - 1)
        | .writing w => .writing w }) ∧
    u.apply = (match s.apply with
      | .idle => .idle
      | .draining r n => .draining r (n - 1)) ∧
    u.access = (s.access.map fun a => { a with flight := a.flight.map fun f => { f with timer := f.timer - 1 } }) ∧
    u = { s with timebase := u.timebase, tags := u.tags, entries := u.entries, slots := u.slots, apply := u.apply,
                 access := u.access } ∧
    let t := allTimers.foldl (fun v T => v.after (expiryRow T)) u
    exec .timebaseTick s = .next t ∧ ∀ T : Timer, t.due T = false

/-- R52: a due verdict timer answers a pending READ or LOCK-READ with ABANDONED and no beats and a pending LOCK-WRITE with ACK
ABANDONED, removes the record as a KILL does, whatever its position, and raises VERDICT_TIMEOUT, whose count A says whether
ABANDONED was sent; a WRITE is answered nothing (R116). Written out for the WAITING READ, WRITE and LOCK-WRITE. -/
def Obligations.VerdictTimersAbandon : Prop :=
  ∀ (p : Pair) (r : TagRecord) (pl : Place) (s : State), Lawful s → s.tag p = some r → r.place = some pl →
    r.verdict = .none → r.timer = some 0 →
    let event := fun (n : Nat) (u : State) =>
      u.raise { kind := .verdictTimeout, initiator := p.initiator, tag := BitVec.ofNat 8 p.tag.val, region := pl.region,
                select := pl.select, address := pl.start.setWidth 32, countA := BitVec.ofNat 16 n }
    (r.position = .waiting →
      (r.kind = .read → r.response = .pending → exec (.verdictTimerExpiry p) s =
        .next (settle s (event 1 ((s.setTag p none).respond (.data p .abandoned 0 []))))) ∧
      (r.kind = .write → r.response = .sent → exec (.verdictTimerExpiry p) s =
        .next (settle s (event 0 (s.setTag p none)))) ∧
      ∀ (k : SlotIx) (v : Reservation), r.kind = .lockWrite → r.response = .pending → s.slots[k] = some v →
        v.initiator = p.initiator → v.state = .writing p.tag → exec (.verdictTimerExpiry p) s =
          .next (settle s (event 1 (((s.setTag p none).setSlot k none).respond (.ack p .abandoned))))) ∧
    (r.response = .sent → ∃ u : State, Removes (fun q => decide (q = p)) s u ∧
      exec (.verdictTimerExpiry p) s = .next (settle s (event 0 u))) ∧
    (r.response = .pending → ∃ u : State,
      Removes (fun q => decide (q = p))
        (s.respond (if r.kind = .read ∨ r.kind = .lockRead then .data p .abandoned 0 [] else .ack p .abandoned)) u ∧
      exec (.verdictTimerExpiry p) s = .next (settle s (event 1 u)))

/-- R103: a due strand timer frees the strand, and STRAND_EXPIRED reports its beats. -/
def Obligations.StrandTimersExpire : Prop :=
  ∀ (e : EntryIx) (c : CaptureEntry) (n : Nat) (s : State), Settled s → s.entries[e] = some c →
    c.state = .stranded n (some 0) →
    let u := (s.setEntry e none).raise
      { kind := .strandExpired, select := c.select, region := c.region, address := c.start.setWidth 32,
        countA := BitVec.ofNat 16 c.beats.length,
        countB := BitVec.ofNat 16 (c.size.bytes + if c.mode = .step then 16 else 0) }
    exec (.strandTimerExpiry e) s =
      .next { u with latch := if s.freeCount < 4 ∧ 4 ≤ u.freeCount then false else u.latch }

/-- R135 and R142: a due lock timer, and BREAK LOCK on a RESERVED reservation, free the reservation, set the holder's
lock-lost flag, mark the lock-read record if one is present, and raise LOCK_BROKEN with the cause; BREAK LOCK answers BUSY
for a WRITING reservation, OK for none, and INVALID for an initiator above 7, and changes nothing then. -/
def Obligations.ReservationsAreBroken : Prop :=
  ∀ s : State, Lawful s →
    (∀ (k : SlotIx) (v : Reservation), s.slots[k] = some v →
      let freed := { s.setSlot k none with lockLost := s.lockLost.set v.initiator true }
      let event := fun cause marked : Nat =>
        ({ kind := .lockBroken, initiator := v.initiator, select := v.select,
           tag := BitVec.ofNat 8 (v.lockRead.getD 0).val, region := v.region, address := v.granule.setWidth 32,
           countA := BitVec.ofNat 16 cause, countB := BitVec.ofNat 16 marked } : EventRecord)
      let broken := fun (cause : Nat) (u : State) =>
        (v.lockRead = none → u = freed.raise (event cause 0)) ∧
        ∀ t : Tag, v.lockRead = some t → ∃ w : TagRecord, s.tag ⟨v.initiator, t⟩ = some w ∧
          u = (freed.setTag ⟨v.initiator, t⟩ (some { w with mark := true })).raise (event cause 1)
      (v.state = .reserved 0 → ∃ u : State, broken 0 u ∧ exec (.lockTimerExpiry k) s = .next (settle s u)) ∧
      (s.listens = true → s.operating ≠ .loading → ∀ i : Byte, i.toNat = v.initiator.val →
        (∀ n : Nat, v.state = .reserved n → ∃ u : State, broken 1 u ∧
          exec (.breakLock i) s = .next ((settle s u).answered 0x31 [i] [0x00])) ∧
        ∀ t : Tag, v.state = .writing t → exec (.breakLock i) s = .next (s.answered 0x31 [i] [0x02]))) ∧
    (s.listens = true → s.operating ≠ .loading → ∀ i : Byte,
      (8 ≤ i.toNat → exec (.breakLock i) s = .next (s.answered 0x31 [i] [0x03])) ∧
      ((∀ k : SlotIx, ∀ v ∈ s.slots[k], v.initiator.val ≠ i.toNat) → i.toNat < 8 →
        exec (.breakLock i) s = .next (s.answered 0x31 [i] [0x00])))

/-- R12, R14 and R15: with the draining region's use count at zero its entry takes the staging record, the strands of the
index go and no other entry does, the state is IDLE, and STRANDS_DISCARDED, if there was a strand, stands before APPLY_DONE.
A due drain timer abandons the change: the region keeps its contents and APPLY_TIMEOUT gives its use count. The use count is
that of R11: the records, the FILLING and CAPTURED entries and the reservations of the index. The entries of a kind
(`entriesWhere`) are listed by number, each once. -/
def Obligations.DrainsEnd : Prop :=
  (∀ (f : CaptureEntry → Bool) (s : State),
    (s.entriesWhere f).map (·.1) = (List.finRange 32).filter (fun e : EntryIx => (s.entries[e]).any f) ∧
    ∀ x ∈ s.entriesWhere f, s.entries[x.1] = some x.2) ∧
  (∀ (r : RegionIx) (s : State), s.useCount r =
    ((List.finRange 8).map fun i : Initiator => (List.finRange 16).countP fun t : Tag =>
      (s.tag ⟨i, t⟩).any fun w => w.place.any fun pl => decide (pl.region = r)).sum +
    ((List.finRange 32).countP fun e : EntryIx => (s.entries[e]).any fun c => !c.isStrand && decide (c.region = r)) +
    (List.finRange 4).countP fun k : SlotIx => (s.slots[k]).any fun v => decide (v.region = r)) ∧
  ∀ (r : RegionIx) (n : Nat) (s : State), s.apply = .draining r n →
    (s.useCount r = 0 → s.events.length ≤ 14 →
      ∃ u : State, exec .drainComplete s = .next (settle s u) ∧ u.apply = .idle ∧
        (∀ q : RegionIx, u.regions[q] = if q = r then s.staging else s.regions[q]) ∧
        (∀ e : EntryIx, u.entries[e] =
          if (s.entries[e]).any (fun c => c.isStrand && decide (c.region = r)) then none else s.entries[e]) ∧
        (let gone := s.entriesWhere fun c => c.isStrand && decide (c.region = r)
         let done : EventRecord := { kind := .applyDone, region := r, timestamp := s.timebase }
         u.events = s.events ++ if gone = [] then [done] else
           [{ kind := .strandsDiscarded, region := r, timestamp := s.timebase,
              countA := BitVec.ofNat 16 gone.length,
              countB := BitVec.ofNat 16 ((gone.map fun x => x.2.beats.length).sum) }, done]) ∧
        u = { s with apply := u.apply, regions := u.regions, entries := u.entries, events := u.events }) ∧
    (n = 0 → exec .drainTimerExpiry s = .next ({ s with apply := .idle }.raise
      { kind := .applyTimeout, region := r, countA := BitVec.ofNat 16 (s.useCount r) }))

/-- The model's choice (log entry 3): an expiry whose timer has not counted down, and an answer or a beat issue that the
access does not call for, do not arise, and change nothing. R151 says so itself of ready and error with no beat in
flight. -/
def Obligations.EventsThatDoNotArise : Prop :=
  ∀ s : State,
    (∀ p : Pair, (∀ r ∈ s.tag p, r.timer ≠ some 0) → exec (.verdictTimerExpiry p) s = .next s) ∧
    (∀ e : EntryIx, (∀ c ∈ s.entries[e], ∀ n : Nat, c.state ≠ .stranded n (some 0)) →
      exec (.strandTimerExpiry e) s = .next s) ∧
    (∀ k : SlotIx, (∀ r ∈ s.slots[k], r.state ≠ .reserved 0) → exec (.lockTimerExpiry k) s = .next s) ∧
    ((∀ r : RegionIx, s.apply ≠ .draining r 0) → exec .drainTimerExpiry s = .next s) ∧
    ((∀ a ∈ s.access, ∀ f ∈ a.flight, f.timer ≠ 0) → exec .waitTimerExpiry s = .next s) ∧
    ((∀ a ∈ s.access, a.flight = none) →
      (∀ w : Word, exec (.targetReady w) s = .next s) ∧ ∀ b : Bool, exec (.targetError b) s = .next s) ∧
    (∀ b : Bool, exec (.strayAnswer b) s = .next s) ∧
    ((∀ a ∈ s.access, a.flight.isSome = true) → exec .beatIssue s = .next s)

/-! ## The target sequencer -/

/-- R58 to R63, R70, R146 and R147: an idle sequencer with an eligible record grants one: of the first initiator in turn from
the pointer on that has one, the record with the lowest order number; the pointer moves to the initiator after it. Eligible is
a WAITING record with a place that meets the verdict condition (R59), the order condition (R60, or R61 for a READ of a PASS
region), the reservation condition (R62) and, if it is guarded and in conflict with no strand, the capture-entry condition
(R70). By R69 and R100 the effective free count of a read is the number of FREE entries and of the strands of which it takes
every beat. That a GRANT with an open access or no eligible record changes nothing is the model's choice (log entry 3). -/
def Obligations.GrantsAreInTurn : Prop :=
  ∀ s : State,
    (s.access.isSome = true ∨ (∀ p : Pair, s.eligible p = false) → exec .grant s = .next s) ∧
    (s.access = none → (∃ p : Pair, s.eligible p = true) →
      ∃ (t : State) (p : Pair) (r : TagRecord), exec .grant s = .next t ∧ s.eligible p = true ∧ s.tag p = some r ∧
        t.pointer = p.initiator + 1 ∧ (∀ w ∈ t.tag p, w.position ≠ .waiting) ∧
        ∀ (q : Pair) (v : TagRecord), s.eligible q = true → s.tag q = some v →
          (p.initiator - s.pointer).val ≤ (q.initiator - s.pointer).val ∧
          (q.initiator = p.initiator → r.order ≤ v.order)) ∧
    (∀ p : Pair, s.eligible p = true ↔ ∃ (r : TagRecord) (pl : Place), s.tag p = some r ∧ r.place = some pl ∧
      MayGoNext s p r pl ∧ MayTakeAnEntry s r pl) ∧
    s.freeCount = (List.finRange 32).countP (fun e : EntryIx => decide (s.entries[e] = none)) ∧
    ∀ (pl : Place) (size : BeatSize) (count : Nat), s.effectiveFree pl size count =
      (List.finRange 32).countP (fun e : EntryIx => decide (s.entries[e] = none)) +
        (s.consumption pl size count).countP fun x => decide (x.beats = x.strand.beats)

/-- R71, R96, R99, R148, R150 and R151: a grant that leaves beats for the target opens the access with the wait limit of its
select, and its first target beat is driven. A guarded read in conflict with no strand first takes the beats that strands
hold for it, and then the lowest entry that is free by then, which becomes FILLING, bound to the pair, holding those beats,
with the other beats requested; its first target beat is the one after them. A read of a PASS region, a WRITE and a
LOCK-WRITE take none and begin at beat 0. The strobe's data lines for a read, and outside a write's lanes, are listed as zero
by the model's choice (log entry 12). -/
def Obligations.GrantsOpenTheAccess : Prop :=
  ∀ (p : Pair) (r : TagRecord) (pl : Place) (s : State), s.access = none → s.firstInTurn s.eligible = some p →
    s.tag p = some r → r.place = some pl →
    let reads : Bool := decide (r.kind = .read ∨ r.kind = .lockRead)
    let opened := fun (first : Nat) (e : Option EntryIx) (u : State) =>
      { u with
        pointer := p.initiator + 1
        access := some
          { pair := p, live := true, kind := if reads then .read else .write, place := pl, size := r.size,
            first := first, count := r.count, next := first + 1, limit := s.waitLimits[pl.select],
            flight := some ⟨first, s.waitLimits[pl.select].toNat⟩, entry := e, buffer := [] }
        strobes := s.strobes ++
          [{ write := !reads, select := pl.select, address := BitVec.ofNat 28 (beatAddress pl r.size first),
             lanes := laneMask r.size (beatAddress pl r.size first),
             lines := if reads then 0
               else r.data.getD first 0 <<< (8 * (beatAddress pl r.size first % 4)) }] }
    (¬IsGuarded r pl →
      exec .grant s = .next (settle s (opened 0 none (s.setTag p (some { r with position := .issued }))))) ∧
    (IsGuarded r pl → NoConflict s r pl →
      let beats := takenBeats (s.consumption pl r.size r.count)
      let u := (s.consumption pl r.size r.count).foldl (fun w x => consume x w) s
      ∀ e : EntryIx, beats.length < r.count → u.entries[e] = none → (∀ d : EntryIx, d < e → u.entries[d] ≠ none) →
        exec .grant s = .next (settle s (opened beats.length (some e)
          { (u.setTag p (some { r with position := .issued, entry := some e })).setEntry e
              (some { state := .filling (some p) (r.count - beats.length), region := pl.region, select := pl.select,
                      start := pl.start, size := r.size, mode := pl.mode, window := pl.strandWindow, beats := beats,
                      allocation := s.allocations }) with
            allocations := s.allocations + 1 })))

/-- R95: a guarded read in conflict with a strand is answered ERROR MISMATCH at its grant; no strand and no entry changes,
no access is opened, and STRAND_MISMATCH counts the strands in conflict and their beats. A COMMITTED record is released. -/
def Obligations.MismatchesAreRefused : Prop :=
  ∀ (p : Pair) (r : TagRecord) (pl : Place) (s : State), Lawful s → s.access = none →
    s.firstInTurn s.eligible = some p → s.tag p = some r → r.place = some pl → IsGuarded r pl →
    let against := (s.strandsUnder pl r.size r.count).filter fun x : Numbered =>
      !(decide (x.2.mode = pl.mode) && decide (x.2.size = r.size) && decide (x.2.start = pl.start))
    let u := { s with pointer := p.initiator + 1 }.respond (.error p .mismatch)
    against ≠ [] →
    exec .grant s = .next (settle s
      ((if r.verdict = .committed then releaseRecord p r u
        else u.setTag p (some { r with position := .done, response := .sent })).raise
        { kind := .strandMismatch, initiator := p.initiator, tag := BitVec.ofNat 8 p.tag.val, region := pl.region,
          select := pl.select, address := pl.start.setWidth 32, countA := BitVec.ofNat 16 against.length,
          countB := BitVec.ofNat 16 ((against.map fun x : Numbered => x.2.beats.length).sum) }))

/-- R90, R94 and R96 to R99: the strands under a read are those on its select of which a byte of the held range is in its
footprint. A read takes, from the front, the beats of those that agree with it in beat mode, beat size and start address,
oldest first: of all of them in FIXED mode and of the oldest alone in STEP mode, as many as it asks for, each strand emptied
before the next is reached. A strand that is emptied is freed; another keeps the rest of its beats, its sequence number and
its timer, and the start of a STEP strand advances by the bytes taken, folded within the window of its region. No other entry
changes. -/
def Obligations.StrandsAreConsumedInOrder : Prop :=
  ∀ (s : State) (pl : Place) (size : BeatSize) (count : Nat),
    (∀ (c : CaptureEntry) (a : Nat), a ∈ s.heldRange c ↔
      match c.mode with
      | .fixed => c.start.toNat ≤ a ∧ a < c.start.toNat + c.size.bytes
      | .step => ∃ k : Nat, k < c.beats.length ∧
          let base := s.regions[c.region].targetBase.toNat
          let first := base + (c.start.toNat - base + k * c.size.bytes) % 2 ^ s.regions[c.region].spanExp.toNat
          first ≤ a ∧ a < first + c.size.bytes) ∧
    (∀ x : Numbered, x ∈ s.strandsUnder pl size count ↔
      s.entries[x.1] = some x.2 ∧ x.2.isStrand = true ∧ x.2.select = pl.select ∧
        ∃ a ∈ s.heldRange x.2, a ∈ footprint pl size count) ∧
    (∀ x : Numbered, x ∈ s.compatible pl size count ↔
      x ∈ s.strandsUnder pl size count ∧ x.2.mode = pl.mode ∧ x.2.size = size ∧ x.2.start = pl.start) ∧
    (s.compatible pl size count).Pairwise (fun x y => ∀ (n m : Nat) (k l : Option Nat),
      x.2.state = .stranded n k → y.2.state = .stranded m l → n ≤ m) ∧
    takenBeats (s.consumption pl size count) =
      (match pl.mode with
        | .fixed => ((s.compatible pl size count).flatMap (·.2.beats)).take count
        | .step => ((s.compatible pl size count).take 1).flatMap (fun x => x.2.beats.take count)) ∧
    (s.consumption pl size count).Pairwise (fun x _ => x.beats = x.strand.beats) ∧
    let u := (s.consumption pl size count).foldl (fun w x => consume x w) s
    (∀ x ∈ s.consumption pl size count, (x.entry, x.strand) ∈ s.compatible pl size count ∧
      x.beats = x.strand.beats.take x.beats.length ∧
      let rest := x.strand.beats.drop x.beats.length
      let base := s.regions[x.strand.region].targetBase.toNat
      u.entries[x.entry] =
        (if rest = [] then none
         else some { x.strand with
           beats := rest
           start := match x.strand.mode with
             | .fixed => x.strand.start
             | .step => BitVec.ofNat 28 (base + (x.strand.start.toNat - base + x.beats.length * x.strand.size.bytes) %
                 2 ^ s.regions[x.strand.region].spanExp.toNat) })) ∧
    (∀ e : EntryIx, (∀ x ∈ s.consumption pl size count, x.entry ≠ e) → u.entries[e] = s.entries[e]) ∧
    u = { s with entries := u.entries }

/-- R71 and R72: a guarded read whose every beat strands can serve is answered DATA within its grant, with no access. A
committed one takes no entry and is released; an uncommitted one is DONE and SENT with a CAPTURED entry that holds the
beats. -/
def Obligations.StrandsServeWholly : Prop :=
  ∀ (p : Pair) (r : TagRecord) (pl : Place) (s : State), Lawful s → s.access = none →
    s.firstInTurn s.eligible = some p → s.tag p = some r → r.place = some pl → IsGuarded r pl →
    NoConflict s r pl →
    r.count ≤ (takenBeats (s.consumption pl r.size r.count)).length →
    let beats := takenBeats (s.consumption pl r.size r.count)
    let status : Status := if r.kind = .lockRead ∧ r.mark = true then .lockLost else .ok
    let u := (s.consumption pl r.size r.count).foldl (fun w x => consume x w) s
    let answered := { u with pointer := p.initiator + 1 }.respond (.data p status r.count beats)
    (r.verdict = .committed → exec .grant s = .next (settle s (releaseRecord p r answered))) ∧
    ∀ e : EntryIx, r.verdict = .none → u.entries[e] = none → (∀ d : EntryIx, d < e → u.entries[d] ≠ none) →
      exec .grant s = .next (settle s
        { (answered.setTag p (some { r with position := .done, response := .sent, entry := some e })).setEntry e
            (some { state := .captured p, region := pl.region, select := pl.select, start := pl.start, size := r.size,
                    mode := pl.mode, window := pl.strandWindow, beats := beats, allocation := s.allocations }) with
          allocations := s.allocations + 1 })

/-- R70: after the grant of an uncommitted guarded read that no strand refuses, at least two entries are free: the
speculative reserve. -/
def Obligations.TheReserveStands : Prop :=
  ∀ (p : Pair) (r : TagRecord) (pl : Place) (s t : State), s.access = none → s.firstInTurn s.eligible = some p →
    s.tag p = some r → r.place = some pl → IsGuarded r pl → r.verdict = .none →
    NoConflict s r pl → exec .grant s = .next t → 2 ≤ t.freeCount

/-- R150 and R151: the select asserted is the open access's, through every beat of it, and none in IDLE; with no beat in
flight the access issues its next beat: one strobe on its select at the beat's address and lanes, a write's value on its
lanes, and the wait timer at the access's limit. The data lines for a read, and outside a write's lanes, are listed as zero by
the model's choice (log entry 12). -/
def Obligations.BeatsAreIssued : Prop :=
  (∀ s : State, s.access = none → s.selected = none) ∧
  ∀ (a : Access) (s : State), s.access = some a → s.selected = some a.place.select ∧ (a.flight = none →
    let b := a.next
    let address := match a.place.mode with
      | .fixed => a.place.start.toNat
      | .step => a.place.base.toNat +
          (a.place.start.toNat - a.place.base.toNat + b * a.size.bytes) % a.place.span
    exec .beatIssue s = .next
      { s with
        access := some { a with next := b + 1, flight := some ⟨b, a.limit.toNat⟩ }
        strobes := s.strobes ++
          [{ write := decide (a.kind = .write), select := a.place.select, address := BitVec.ofNat 28 address,
             lanes := BitVec.ofNat 4 ((2 ^ a.size.bytes - 1) <<< (address % 4)),
             lines := match a.kind, s.tag a.pair with
               | .write, some r => r.data.getD b 0 <<< (8 * (address % 4))
               | _, _ => 0 }] })

/-- R151: the value of a read beat is what stands on its lanes: the data lines from the lane of its address on, as many bytes
as the beat's size. R152 for a live read of a PASS region: the value on the beat's lanes joins the read buffer; the last beat ends the
access and DATA carries the buffer, OK or LOCK_LOST by the lock-lost mark, with the record released if it is COMMITTED. -/
def Obligations.PassBeatsAreDelivered : Prop :=
  (∀ (size : BeatSize) (address : Nat) (lines : Word), fromLines size address lines =
    BitVec.ofNat 32 (lines.toNat / 2 ^ (8 * (address % 4)) % 2 ^ (8 * size.bytes))) ∧
  ∀ (a : Access) (f : Flight) (r : TagRecord) (lines : Word) (s : State), AccessLaw s → Settled s →
    s.access = some a → a.flight = some f → a.kind = .read → a.live = true → a.entry = none → s.tag a.pair = some r →
    let beats := a.buffer ++ [fromLines a.size (beatAddress a.place a.size f.beat) lines]
    let status : Status := if r.kind = .lockRead ∧ r.mark = true then .lockLost else .ok
    let u := (s.setAccess none).respond (.data a.pair status 0 beats)
    (f.beat + 1 < a.count →
      exec (.targetReady lines) s = .next (s.setAccess (some { a with flight := none, buffer := beats }))) ∧
    (a.count ≤ f.beat + 1 →
      exec (.targetReady lines) s = .next (settle s
        (if r.verdict = .committed then releaseRecord a.pair r u
         else u.setTag a.pair (some { r with position := .done, response := .sent }))))

/-- R73, R74 and R152 for a live guarded read: the beat joins the capture entry; at the fill end DATA carries the entry's
beats, with those from strands counted, OK or LOCK_LOST by the lock-lost mark; a COMMITTED record is released and its entry
freed, and the entry of another becomes CAPTURED. -/
def Obligations.GuardedBeatsFillTheEntry : Prop :=
  ∀ (a : Access) (f : Flight) (r : TagRecord) (e : EntryIx) (c : CaptureEntry) (lines : Word) (s : State), Lawful s →
    s.access = some a → a.flight = some f → a.kind = .read → a.live = true → a.entry = some e →
    s.entries[e] = some c → s.tag a.pair = some r →
    let beats := c.beats ++ [fromLines a.size (beatAddress a.place a.size f.beat) lines]
    let status : Status := if r.kind = .lockRead ∧ r.mark = true then .lockLost else .ok
    let done := (s.setAccess none).respond (.data a.pair status a.first beats)
    (f.beat + 1 < a.count →
      exec (.targetReady lines) s = .next (settle s
        ((s.setAccess (some { a with flight := none })).setEntry e (some { c with beats := beats })))) ∧
    (a.count ≤ f.beat + 1 → r.verdict = .committed →
      exec (.targetReady lines) s = .next (settle s (releaseRecord a.pair r done))) ∧
    (a.count ≤ f.beat + 1 → r.verdict = .none →
      exec (.targetReady lines) s = .next (settle s
        ((done.setTag a.pair (some { r with position := .done, response := .sent })).setEntry e
          (some { c with state := .captured a.pair, beats := beats }))))

/-- R119, R123 and R138: a write's last beat ends its access. A WRITE is released without a response; a LOCK-WRITE frees its
reservation and is answered ACK OK, unless it survived a host-link reset, and is released. -/
def Obligations.WrittenBeatsRelease : Prop :=
  ∀ (a : Access) (f : Flight) (r : TagRecord) (lines : Word) (s : State), Lawful s → s.access = some a →
    a.flight = some f → a.kind = .write → s.tag a.pair = some r →
    (f.beat + 1 < a.count → exec (.targetReady lines) s = .next (settle s (s.setAccess (some { a with flight := none })))) ∧
    (a.count ≤ f.beat + 1 →
      (r.kind = .write →
        exec (.targetReady lines) s = .next (settle s ((s.setAccess none).setTag a.pair none))) ∧
      ∀ (k : SlotIx) (v : Reservation), r.kind = .lockWrite → s.slots[k] = some v →
        v.initiator = a.pair.initiator → v.state = .writing a.pair.tag →
        let u := ((s.setAccess none).setTag a.pair none).setSlot k none
        exec (.targetReady lines) s =
          .next (settle s (if r.response = .pending then u.respond (.ack a.pair .ok) else u)))

/-- R74, R75, R121 to R123, R153 to R155: an error, whatever the level of ready beside it, and a due wait timer fail the beat
in flight and end the access. A WRITE is released with WRITE_FAULT; a LOCK-WRITE also frees its reservation and is answered,
unless it survived a host-link reset. A live read is answered with the beats obtained before and READ_FAULT: its entry is
freed when its record is COMMITTED, which is released, and when it holds no beats, and is CAPTURED else. -/
def Obligations.FailedBeatsEndTheAccess : Prop :=
  ∀ (a : Access) (f : Flight) (r : TagRecord) (cause : Nat) (c : Instr) (s : State), Lawful s → s.access = some a →
    a.flight = some f → a.live = true → s.tag a.pair = some r →
    (cause = 0 ∧ ∃ ready : Bool, c = .targetError ready) ∨ (cause = 1 ∧ c = .waitTimerExpiry ∧ f.timer = 0) →
    let status : Status := if cause = 0 then .targetError else .targetTimeout
    let event := fun (kind : EventKind) (n : Nat) (u : State) =>
      u.raise { kind := kind, initiator := a.pair.initiator, tag := BitVec.ofNat 8 a.pair.tag.val,
                region := a.place.region, select := a.place.select, address := a.place.start.setWidth 32,
                countA := BitVec.ofNat 16 n, countB := BitVec.ofNat 16 cause }
    let done := { r with position := .done, response := .sent }
    let answered := fun beats : List Word => (s.setAccess none).respond (.data a.pair status a.first beats)
    let gone := (s.setAccess none).setTag a.pair none
    (a.kind = .write → r.kind = .write → exec c s = .next (settle s (event .writeFault f.beat gone))) ∧
    (∀ (k : SlotIx) (v : Reservation), a.kind = .write → r.kind = .lockWrite → s.slots[k] = some v →
      v.initiator = a.pair.initiator → v.state = .writing a.pair.tag →
      exec c s = .next (settle s (event .writeFault f.beat
        (if r.response = .pending then (gone.setSlot k none).respond (.ack a.pair status)
         else gone.setSlot k none)))) ∧
    (a.kind = .read → a.entry = none → exec c s = .next (settle s (event .readFault f.beat
      (if r.verdict = .committed then releaseRecord a.pair r (answered a.buffer)
       else (answered a.buffer).setTag a.pair (some done))))) ∧
    ∀ (e : EntryIx) (v : CaptureEntry), a.kind = .read → a.entry = some e → s.entries[e] = some v →
      (r.verdict = .committed → exec c s = .next (settle s (event .readFault (f.beat - a.first)
        (releaseRecord a.pair r (answered v.beats))))) ∧
      (r.verdict = .none → v.beats = [] → exec c s = .next (settle s (event .readFault (f.beat - a.first)
        (((answered []).setTag a.pair (some { done with entry := none })).setEntry e none)))) ∧
      (r.verdict = .none → v.beats ≠ [] → exec c s = .next (settle s (event .readFault (f.beat - a.first)
        (((answered v.beats).setTag a.pair (some done)).setEntry e (some { v with state := .captured a.pair })))))

/-- R79 and R154 to R156 for a read whose record has been removed: the beat in flight ends the access. Ready appends the beat
to the unbound entry, which becomes a strand; an error or a due wait timer strands what it holds, or frees it when it holds
nothing, with READ_FAULT count B 2 or 3; a PASS read's beats are gone. No response is sent. -/
def Obligations.RemovedReadsStrand : Prop :=
  ∀ (a : Access) (f : Flight) (lines : Word) (cause : Nat) (failure : Instr) (s : State), s.access = some a → a.flight = some f →
    a.kind = .read → a.live = false →
    (cause = 2 ∧ ∃ ready : Bool, failure = .targetError ready) ∨ (cause = 3 ∧ failure = .waitTimerExpiry ∧ f.timer = 0) →
    let idle := s.setAccess none
    let event := fun u : State =>
      u.raise { kind := .readFault, initiator := a.pair.initiator, tag := BitVec.ofNat 8 a.pair.tag.val,
                region := a.place.region, select := a.place.select, address := a.place.start.setWidth 32,
                countA := BitVec.ofNat 16 (f.beat - a.first), countB := BitVec.ofNat 16 cause }
    let strand := fun (e : EntryIx) (c : CaptureEntry) (beats : List Word) =>
      { idle.setEntry e (some { c with
          state := .stranded s.strandCounter (if c.window = 0 then none else some c.window.toNat)
          beats := beats }) with strandCounter := s.strandCounter + 1 }
    (a.entry = none → exec (.targetReady lines) s = .next (settle s idle) ∧
      exec failure s = .next (settle s (event idle))) ∧
    ∀ (e : EntryIx) (c : CaptureEntry), a.entry = some e → s.entries[e] = some c →
      exec (.targetReady lines) s = .next (settle s (strand e c
        (c.beats ++ [fromLines a.size (beatAddress a.place a.size f.beat) lines]))) ∧
      (c.beats ≠ [] → exec failure s = .next (settle s (event (strand e c c.beats)))) ∧
      (c.beats = [] → exec failure s = .next (settle s (event (idle.setEntry e none))))

/-- R64 and R141: an UNLOCK is ready once it is COMMITTED and no older ordered record of its initiator is WAITING. A ready one
acts on the reservation its initiator holds at that moment, is answered, and is released. -/
def Obligations.UnlocksArePerformed : Prop :=
  (∀ (i : Initiator) (s : State),
    let ready := fun p : Pair => p.initiator = i ∧ ∃ r ∈ s.tag p, r.kind = .unlock ∧ r.verdict = .committed ∧
      r.position = .waiting ∧ ∀ (t : Tag) (w : TagRecord), s.tag ⟨i, t⟩ = some w → w.order < r.order →
        w.position = .waiting → w.kind = .read ∧ w.place.map (·.cls) = some .pass
    (∀ p : Pair, s.readyUnlock i = some p → ready p) ∧ (s.readyUnlock i = none → ∀ p : Pair, ¬ready p)) ∧
  ∀ (i : Initiator) (p : Pair) (s : State), Lawful s → s.readyUnlock i = some p →
    let gone := s.setTag p none
    (∀ (k : SlotIx) (v : Reservation), s.slots[k] = some v → v.initiator = i →
      (∀ n : Nat, v.state = .reserved n →
        exec (.unlockPerform i) s = .next (settle s ((gone.setSlot k none).respond (.ack p .ok)))) ∧
      ∀ t : Tag, v.state = .writing t → exec (.unlockPerform i) s = .next (settle s (gone.respond (.ack p .ok)))) ∧
    ((∀ k : SlotIx, ∀ v ∈ s.slots[k], v.initiator ≠ i) →
      exec (.unlockPerform i) s = .next (settle s
        ((gone.setLockLost i false).respond (.ack p (if s.lockLost[i] = true then .lockLost else .ok)))))

/-- R112: from a lawful state a write strobe is driven only for the open access of a live, COMMITTED WRITE or LOCK-WRITE;
no step drives more than one strobe, and none but a grant and a beat issue drives any (R145, R151). The law of R138: a
LOCK-WRITE's strobe is driven only while its initiator holds the WRITING reservation that names it, on the granule that it
touches. -/
def Obligations.OnlyCommittedWritesReachTheTarget : Prop :=
  ∀ (c : Instr) (s t : State), AccessLaw s → exec c s = .next t →
    t.strobes = s.strobes ∨
      ∃ (b : Strobe) (a : Access), t.strobes = s.strobes ++ [b] ∧ (c = .grant ∨ c = .beatIssue) ∧
        t.access = some a ∧ b.select = a.place.select ∧
        (b.write = true → ∃ r : TagRecord, t.tag a.pair = some r ∧ (r.kind = .write ∨ r.kind = .lockWrite) ∧
          r.verdict = .committed ∧
          (Lawful s → r.kind = .lockWrite → ∃ k : SlotIx, ∃ v ∈ t.slots[k], v.initiator = a.pair.initiator ∧
            v.state = .writing a.pair.tag ∧
            ∀ pl ∈ r.place, v.select = pl.select ∧ v.granule.toNat = pl.start.toNat / 8 * 8))

/-! ## The management port -/

/-- R17, R65, R87, R144 and R163 to R170: each command that reads answers OK with a snapshot in the layout it has, or INVALID
for an index out of range, and changes nothing but the frame. -/
def Obligations.ReadCommandsAnswerSnapshots : Prop :=
  ∀ s : State, s.listens = true →
    (exec .getStatus s = .next (s.answered 0x01 [] (0x00 :: statusRecord s)) ∧ StatusLayout s (statusRecord s)) ∧
    (s.operating ≠ .loading →
      (∀ b : Byte,
        (∀ r : RegionIx, b.toNat = r.val →
          exec (.readRegion b) s = .next (s.answered 0x12 [b] (0x00 :: packRegion r s.regions[r])) ∧
            RegionLayout r s.regions[r] (packRegion r s.regions[r])) ∧
        (16 ≤ b.toNat → exec (.readRegion b) s = .next (s.answered 0x12 [b] [0x03]))) ∧
      (∀ b d : Byte,
        (∀ p : Pair, b.toNat = p.initiator.val → d.toNat = p.tag.val →
          exec (.readTag b d) s = .next (s.answered 0x20 [b, d] (0x00 :: tagRecordBytes s p)) ∧
            (s.tag p = none → tagRecordBytes s p = List.replicate 48 0) ∧
            ∀ r ∈ s.tag p, TagLayout r (tagRecordBytes s p)) ∧
        (8 ≤ b.toNat ∨ 16 ≤ d.toNat → exec (.readTag b d) s = .next (s.answered 0x20 [b, d] [0x03]))) ∧
      (∀ b : Byte,
        (∀ e : EntryIx, b.toNat = e.val →
          exec (.readCapture b) s = .next (s.answered 0x21 [b] (0x00 :: entryRecordBytes s e)) ∧
            (s.entries[e] = none → entryRecordBytes s e = List.replicate 48 0) ∧
            ∀ c ∈ s.entries[e], EntryLayout c (entryRecordBytes s e)) ∧
        (32 ≤ b.toNat → exec (.readCapture b) s = .next (s.answered 0x21 [b] [0x03]))) ∧
      exec .readReservations s = .next (s.answered 0x22 [] (0x00 :: reservationRecord s)) ∧
      (reservationRecord s).length = 49 ∧
      (∀ k : SlotIx,
        let record := ((reservationRecord s).drop (12 * k.val)).take 12
        (s.slots[k] = none → record = List.replicate 12 0) ∧ ∀ v ∈ s.slots[k], SlotLayout v record) ∧
      ∀ i : Initiator, bitsAt (reservationRecord s) 48 i.val 1 = (s.lockLost[i]).toNat)

/-- R164: in LOADING every defined command but GET STATUS is answered BUSY and changes nothing; a code that is not in the
command table is answered UNKNOWN in every operating state (R162). -/
def Obligations.LoadingAnswersBusy : Prop :=
  ∀ (c : Instr) (code : Byte) (params : List Byte) (s : State), c.wellFormed = true →
    encodeFrame c = some (code :: params) → s.listens = true →
    (s.operating = .loading → code ∈ Config.commandCodes → code ≠ 0x01 →
      exec c s = .next (s.answered code params [0x02])) ∧
    (code ∉ Config.commandCodes → exec c s = .next (s.answered code params [0x05]))

/-- R173 to R176: TAKE EVENT removes the oldest record and answers with its 16 bytes, in the layout of an event record, and the
queue byte, or EMPTY; CLEAR OVERFLOW clears the flag and answers the event count; SET ALERT MASK replaces the 17 enables and
answers them. -/
def Obligations.EventCommandsAct : Prop :=
  ∀ s : State, s.listens = true → s.operating ≠ .loading →
    (s.events = [] → exec .takeEvent s = .next (s.answered 0x02 [] [0x04])) ∧
    (∀ (e : EventRecord) (rest : List EventRecord), s.events = e :: rest → QueueLaw s →
      exec .takeEvent s = .next ({ s with events := rest }.answered 0x02 []
        (0x00 :: eventBytes e ++ [BitVec.ofNat 8 (rest.length + if s.overflow then 128 else 0)])) ∧
      EventLayout e (eventBytes e)) ∧
    exec .clearOverflow s = .next ({ s with overflow := false }.answered 0x04 []
      [0x00, BitVec.ofNat 8 s.events.length]) ∧
    ∀ m : BitVec 24, exec (.setAlertMask m) s = .next ({ s with alertMask := m.setWidth 17 }.answered 0x03
      [m.setWidth 8, (m >>> 8).setWidth 8, (m >>> 16).setWidth 8]
      [0x00, m.setWidth 8, (m >>> 8).setWidth 8, ((m >>> 16) &&& 1).setWidth 8])

/-- R171 and R177: a raised record is stored at the young end with the timebase counter, or refused with the overflow flag
set when the queue holds 16. ALERT is asserted exactly while a record of an enabled kind is held or the overflow flag is set,
so that TAKE EVENT, CLEAR OVERFLOW and SET ALERT MASK deassert it where they leave neither. At a raise it follows: unchanged
by a stored record of a disabled kind, asserted by one of an enabled kind and by a refusal, whatever the mask. A kind is
enabled by its own bit of the mask (R176). -/
def Obligations.RaisingStoresOrRefuses : Prop :=
  ∀ s : State,
    let enabled := fun kind : EventKind => ∃ b : Nat, eventKinds[b]? = some kind ∧ s.alertMask.getLsbD b = true
    (s.alert = true ↔ (∃ e ∈ s.events, enabled e.kind) ∨ s.overflow = true) ∧
    ∀ e : EventRecord,
      (s.events.length < 16 →
        s.raise e = { s with events := s.events ++ [{ e with timestamp := s.timebase }] } ∧
        (enabled e.kind → (s.raise e).alert = true) ∧ (¬enabled e.kind → (s.raise e).alert = s.alert)) ∧
      (16 ≤ s.events.length → s.raise e = { s with overflow := true } ∧ (s.raise e).alert = true)

/-- R10, R12 and R166: in IDLE, STAGE REGION stores every field of the region record it is sent, valid or not; while DRAINING
it answers BUSY and the staging record stays. APPLY REGION answers BUSY while DRAINING, INVALID for an index above 15 and for
an invalid staging record; a region in use begins to drain with PENDING and the drain limit at 1000 ticks per millisecond;
any other change is made at once: the entry takes the staging record, the strands of the index go, and STRANDS_DISCARDED with
cause 0 gives their number and their beats, if there was one (R105). -/
def Obligations.StagingAndApplying : Prop :=
  ∀ s : State, s.listens = true → s.operating ≠ .loading →
    (∀ (r : RegionIx) (e : RegionEntry) (record : Vector Byte 16), record.toList = packRegion r e →
      (s.apply = .idle → exec (.stageRegion record) s =
        .next ({ s with staging := e }.answered 0x10 (packRegion r e) [0x00])) ∧
      (s.apply ≠ .idle → exec (.stageRegion record) s = .next (s.answered 0x10 (packRegion r e) [0x02]))) ∧
    ∀ b : Byte,
      (s.apply ≠ .idle → exec (.applyRegion b) s = .next (s.answered 0x11 [b] [0x02])) ∧
      (s.apply = .idle → 16 ≤ b.toNat ∨ s.staging.valid = false →
        exec (.applyRegion b) s = .next (s.answered 0x11 [b] [0x03])) ∧
      ∀ r : RegionIx, s.apply = .idle → s.staging.valid = true → b.toNat = r.val →
        (s.useCount r ≠ 0 → exec (.applyRegion b) s =
          .next ({ s with apply := .draining r (1000 * s.drainLimit.toNat) }.answered 0x11 [b] [0x01])) ∧
        (s.useCount r = 0 → ∃ u : State,
          exec (.applyRegion b) s = .next ((settle s u).answered 0x11 [b] [0x00]) ∧
          (∀ q : RegionIx, u.regions[q] = if q = r then s.staging else s.regions[q]) ∧
          (∀ e : EntryIx, u.entries[e] =
            if (s.entries[e]).any (fun c => c.isStrand && decide (c.region = r)) then none else s.entries[e]) ∧
          let gone := s.entriesWhere fun c => c.isStrand && decide (c.region = r)
          let changed := { s with regions := u.regions, entries := u.entries }
          u = if gone = [] then changed else
            changed.raise { kind := .strandsDiscarded, region := r, countA := BitVec.ofNat 16 gone.length,
                            countB := BitVec.ofNat 16 ((gone.map fun x => x.2.beats.length).sum) })

/-- R158 and R185: SET SELECT replaces the wait limit of a select and answers all four; a select above 3 and a limit of 0 are
INVALID; an open access keeps the limit it copied. HOLD and RELEASE set the operating state and answer it. Nothing else
changes. -/
def Obligations.SettingWaitLimitsAndTheState : Prop :=
  ∀ s : State, s.listens = true → s.operating ≠ .loading →
    (∀ b limit : Byte,
      (4 ≤ b.toNat ∨ limit = 0 → exec (.setSelect b limit) s = .next (s.answered 0x13 [b, limit] [0x03])) ∧
      ∀ k : Select, b.toNat = k.val → limit ≠ 0 → ∃ t : State, exec (.setSelect b limit) s = .next t ∧
        (∀ j : Select, t.waitLimits[j] = if j = k then limit else s.waitLimits[j]) ∧
        t = { s with waitLimits := t.waitLimits }.answered 0x13 [b, limit]
          [0x00, t.waitLimits[0], t.waitLimits[1], t.waitLimits[2], t.waitLimits[3]]) ∧
    exec .hold s = .next ({ s with operating := .held }.answered 0x40 [] [0x00, 0x01]) ∧
    exec .release s = .next ({ s with operating := .running }.answered 0x41 [] [0x00, 0x02])

/-- R104 to R106: DISCARD STRANDS frees the strands of its scope and no other entry, answers how many they were and the
beats they held, and raises one STRANDS_DISCARDED with the cause if there was one; parameters out of range are INVALID. -/
def Obligations.DiscardingStrands : Prop :=
  ∀ (scope region select : Byte) (address : Word) (s : State), s.listens = true → s.operating ≠ .loading →
    let params := scope :: region :: select :: leBytes 4 address.toNat
    let bad := 2 < scope.toNat ∨ (scope = 1 ∧ 16 ≤ region.toNat) ∨
      (scope = 2 ∧ (4 ≤ select.toNat ∨ 2 ^ 28 ≤ address.toNat))
    (bad → exec (.discardStrands scope region select address) s = .next (s.answered 0x30 params [0x03])) ∧
    (¬bad → s.events.length < 16 → ∃ u : State,
      let gone := (s.entriesWhere CaptureEntry.isStrand).filter fun x => decide (scope = 0) ||
        (decide (scope = 1) && decide (x.2.region.val = region.toNat)) ||
        (decide (scope = 2) && decide (x.2.select.val = select.toNat) && (s.heldRange x.2).contains address.toNat)
      let beats := (gone.map fun x => x.2.beats.length).sum
      exec (.discardStrands scope region select address) s = .next ((settle s u).answered 0x30 params
        (0x00 :: BitVec.ofNat 8 gone.length :: leBytes 2 beats)) ∧
      (∀ e : EntryIx, u.entries[e] = if e ∈ gone.map (·.1) then none else s.entries[e]) ∧
      u.events = s.events ++ (if gone = [] then [] else
        [{ kind := .strandsDiscarded, tag := scope + 1, region := Fin.ofNat 16 (if scope = 1 then region.toNat else 0),
           select := Fin.ofNat 4 (if scope = 2 then select.toNat else 0), address := if scope = 2 then address else 0,
           timestamp := s.timebase, countA := BitVec.ofNat 16 gone.length, countB := BitVec.ofNat 16 beats }]) ∧
      u = { s with entries := u.entries, events := u.events })

/-- R161 and R162: the select's assertion begins an empty frame and its deassertion ends one, with the effects of a command
that was taken. Clocked byte by byte, a command is taken at its last byte and not before, the frame standing in its parameter
phase with the bytes received so far (so that a short frame has no effect); the next byte is the turnaround, and those after
it clock out the response and then 0x00, with no second command. 0x00 is driven until the response, and nothing outside a
frame, where a byte has no effect. One frame carries one command, and outside a frame none is taken. What a command of the
port does in a frame that cannot take it, and FRAME_START in a frame, is how the model gives the case (log entry 3), and what
a frame ignored after a power-on reset drives, too (log entry 9). -/
def Obligations.FramesCarryOneCommand : Prop :=
  ∀ s : State,
    let frame := fun (phase : Phase) (code : Option Byte) (params : List Byte) =>
      { s with port := .frame { phase := phase, code := code, params := params, response := [], sent := 0 } }
    (s.port = .deselected → exec .frameStart s = .next (frame .command none [])) ∧
    (s.port ≠ .deselected → exec .frameStart s = .next s) ∧
    exec .frameEnd s = .next { s with port := .deselected } ∧
    (s.port = .deselected ∨ s.port = .ignored → s.dataOut = none ∧ ∀ b : Byte, clockByte b s = .next s) ∧
    (∀ (c : Instr) (bytes : List Byte), encodeFrame c = some bytes →
      (s.accepts bytes = false → exec c s = .next s) ∧
      (c.wellFormed = true →
        (s.accepts bytes = true → exec c s = exec c (frame .command none [])) ∧
        (s.listens = true → exec c s = .next (clockAll bytes s) ∧
          ∀ (few : List Byte) (b : Byte) (rest : List Byte), bytes = few ++ b :: rest →
            (clockAll few s).dataOut = some 0 ∧
            (few ≠ [] → clockAll few s = frame .parameters few.head? few.tail)))) ∧
    ∀ f : Frame, s.port = .frame f → f.phase = .turnaround → f.sent = 0 → s.dataOut = some 0 ∧
      ∀ (b : Byte) (more : List Byte),
        clockAll (b :: more) s = { s with port := .frame { f with phase := .response, sent := more.length } } ∧
        (clockAll (b :: more) s).dataOut = some (f.response.getD more.length 0)

/-! ## Resets and the boot read -/

/-- R16, R38, R86, R108, R143, R159, R178, R180 and R181: a power-on reset empties every table and the queue, puts every
setting at its default, and samples BOOTSEL; a frame in progress is ignored to its end; the boot read begins with the flash
select asserted, or the boot port stays idle. That the model's records of what has been sent and driven stay is the model's
choice (log entry 2). -/
def Obligations.PowerOnResetEmptiesThePart : Prop :=
  ∀ (b : Bool) (s : State), ∃ t : State, exec (.powerOnReset b) s = .next t ∧
    (∀ r : RegionIx, t.regions[r] = RegionEntry.off) ∧ t.staging = RegionEntry.off ∧ t.apply = .idle ∧
    t.drainLimit = 255 ∧ (∀ p : Pair, t.tag p = none) ∧ (∀ i : Initiator, t.acceptance[i] = 0) ∧
    (∀ e : EntryIx, t.entries[e] = none) ∧ t.latch = false ∧ t.strandCounter = 0 ∧
    (∀ k : SlotIx, t.slots[k] = none) ∧ (∀ i : Initiator, t.lockLost[i] = false) ∧ t.pointer = 0 ∧
    (∀ k : Select, t.waitLimits[k] = 32) ∧ t.access = none ∧ t.events = [] ∧ t.overflow = false ∧
    t.alertMask = BitVec.allOnes 17 ∧ t.alert = false ∧ t.selected = none ∧
    (s.port ≠ .deselected → t.port = .ignored) ∧ (s.port = .deselected → t.port = .deselected) ∧
    t.divider = 25 ∧ t.timebase = 0 ∧
    (b = false → t.operating = .loading ∧ t.image = .loading ∧ t.boot = .header ∧ t.flashSelect = true) ∧
    (b = true → t.operating = .held ∧ t.image = .notRead ∧ t.boot = .idle ∧ t.flashSelect = false) ∧
    t.responses = s.responses ∧ t.strobes = s.strobes

/-- R39, R40, R84, R92, R143, R156, R157 and R186: a host-link reset removes every record but the committed writes that are
WAITING or ISSUED, whose response becomes SENT; it sends nothing, frees the reservations but those of surviving LOCK-WRITEs
and clears the lock-lost flags. Every CAPTURED entry becomes a strand, numbered in the order of allocation (R92). An open
write goes on; an open read is marked removed, and its entry unbound, with a beat in flight, and with none it ends and its
entry becomes a strand, after the others, or is freed with no beats; a read removed before stays as it is. HOST_RESET is
raised. Nothing else changes but what the rest of the event makes of a region change in progress. -/
def Obligations.HostLinkResetSparesCommittedWrites : Prop :=
  ∀ s : State, Lawful s →
    let number := fun f : TagRecord → Bool => ((List.finRange 8).map fun i : Initiator =>
      (List.finRange 16).countP fun t : Tag => (s.tag ⟨i, t⟩).any fun r => r.place.isSome && f r).sum
    let reads := fun r : TagRecord => decide (r.kind = .read ∨ r.kind = .lockRead)
    let event : EventRecord :=
      { kind := .hostReset
        countA := BitVec.ofNat 16 (number fun r =>
          decide (r.kind = .write ∨ r.kind = .lockWrite) && decide (r.verdict = .none))
        countB := BitVec.ofNat 16 (number reads)
        address := BitVec.ofNat 32 (number fun r => reads r && r.entry.isSome) }
    ∃ t u : State, exec .hostLinkReset s = .next t ∧ t = settle s (u.raise event) ∧
    (∀ p : Pair, t.tag p = (s.tag p).bind fun r =>
      if (r.kind = .write ∨ r.kind = .lockWrite) ∧ r.verdict = .committed ∧ r.position ≠ .done then
        some { r with response := .sent }
      else none) ∧
    (∀ k : SlotIx, t.slots[k] = (s.slots[k]).bind fun v => match v.state with
      | .reserved _ => none
      | .writing w => if (t.tag ⟨v.initiator, w⟩).isSome then some { v with lockRead := none } else none) ∧
    (∀ i : Initiator, t.lockLost[i] = false) ∧ t.responses = s.responses ∧ t.strobes = s.strobes ∧
    t.acceptance = s.acceptance ∧ t.pointer = s.pointer ∧ t.waitLimits = s.waitLimits ∧ t.operating = s.operating ∧
    t.image = s.image ∧ t.boot = s.boot ∧ t.divider = s.divider ∧ t.timebase = s.timebase ∧ t.port = s.port ∧
    (∀ a ∈ s.access, a.kind = .write → t.access = some a) ∧ AccessLeft (fun _ => true) s t ∧
    EntriesLeft (fun _ => true) s u ∧
    (s.apply = .idle → t.entries = u.entries ∧ t.strandCounter = u.strandCounter ∧ t.events = (s.raise event).events) ∧
    u = { s with tags := t.tags, slots := t.slots, lockLost := t.lockLost, access := t.access, entries := u.entries,
                 strandCounter := u.strandCounter }

/-- R181 and R183: the header passes exactly when its identity, version, region count and six settings are in range; then
the body is read. The first check that fails ends the read with its cause and offset, after 4 bytes for the identity and after
12 for the rest. While the header is read the flash select is asserted and the read command and the address have been sent;
it stays asserted exactly if the body is read (that it is deasserted with the failed check is log entry 9's reading). -/
def Obligations.TheHeaderIsChecked : Prop :=
  ∀ (h : Vector Byte 12) (s : State), s.boot = .header →
    let identity := h[0] = 0xA7 ∧ h[1] = 0x3C ∧ h[2] = 0xA7 ∧ h[3] = 0x3C
    let ended := fun f : ImageFailure => exec (.headerReadDone h) s = .next { s with boot := .ended h f }
    s.flashSelect = true ∧ (List.range 4).map s.bootOut = [some 0x03, some 0x00, some 0x00, some 0x00] ∧
    (∃ t : State, exec (.headerReadDone h) s = .next t ∧ (t.flashSelect = true ↔ t.boot = .body h) ∧
      (identity → t.boot.bytesRead = 12) ∧ (¬identity → t.boot.bytesRead = 4)) ∧
    (¬identity → ended (.absent (decide (h[0] = 0xFF ∧ h[1] = 0xFF ∧ h[2] = 0xFF ∧ h[3] = 0xFF)))) ∧
    (identity → h[4] ≠ 1 → ended (.corrupt 1 4 0)) ∧
    (identity → h[4] = 1 → 16 < h[5].toNat → ended (.corrupt 2 5 0)) ∧
    (identity → h[4] = 1 → h[5].toNat ≤ 16 →
      (h[6].toNat < 10 ∨ 100 < h[6].toNat → ended (.corrupt 3 6 0)) ∧
      (10 ≤ h[6].toNat → h[6].toNat ≤ 100 →
        (∀ (k : Nat) (hk : k < 12), 7 ≤ k → h[k] = 0 →
          (∀ (j : Nat) (hj : j < 12), 7 ≤ j → j < k → h[j] ≠ 0) → ended (.corrupt 3 k 0)) ∧
        ((∀ (k : Nat) (hk : k < 12), 7 ≤ k → h[k] ≠ 0) →
          exec (.headerReadDone h) s = .next { s with boot := .body h })))

/-- R183 and R184: with every check passed, an index that a record names has that record's entry and every other is OFF, the
settings come from the header, and the part is RUNNING with no event. An absent image loads the fallback table and the part is
RUNNING with IMAGE_ABSENT. A corrupt one leaves the table and the part is HELD with IMAGE_CORRUPT, whose fields give the
cause, the offset, the record's index and the region count: of the body, cause 4 where the half-words of the image, each read
little-endian, do not sum to 0 modulo 2^16 (R182), then, for the first record
that is at fault, 5 for an invalid one and 6 for one that an earlier record's index repeats. The end of loading ends
the read and deasserts the flash select (R181). -/
def Obligations.LoadingEnds : Prop :=
  ∀ (h : Vector Byte 12) (body : List Byte) (s : State),
    let record := fun k : Nat => (body.drop (16 * k)).take 16
    let good := fun k : Nat => (unpackRegion (record k)).valid = true ∧
      ∀ j : Nat, j < k → recordIndex (record j) ≠ recordIndex (record k)
    let image := h.toList ++ body
    let summed := ((List.range (image.length / 2)).map fun k =>
      (image.getD (2 * k) 0).toNat + 256 * (image.getD (2 * k + 1) 0).toNat).sum % 65536 = 0
    let defaults := { s with divider := 25, drainLimit := 255, waitLimits := Vector.replicate 4 32, boot := .idle }
    let corrupt := fun (cause offset : Nat) (index : RegionIx) =>
      exec (.endOfLoading body) s = .next (({ defaults with image := .corrupt, operating := .held } : State).raise
        { kind := .imageCorrupt, region := index, address := BitVec.ofNat 32 offset, countA := BitVec.ofNat 16 cause,
          countB := BitVec.ofNat 16 h[5].toNat })
    (∀ ones : Bool, s.boot = .ended h (.absent ones) → exec (.endOfLoading body) s = .next (({ defaults with
        image := .absent
        operating := .running
        regions := (Vector.replicate 16 RegionEntry.off).set 0
          { cls := 1, lock := false, hostExp := 32, spanExp := 28, hostBase := 0, targetBase := 0, select := 0,
            mode := 1, verdictLimit := 0, lockLimit := 1, strandWindow := 0 } } : State).raise
        { kind := .imageAbsent, countA := 4, countB := if ones then 1 else 0 })) ∧
    (∀ (cause offset : Nat) (index : RegionIx), s.boot = .ended h (.corrupt cause offset index) →
      corrupt cause offset index) ∧
    (s.boot = .body h → body.length = 16 * h[5].toNat + 2 →
      (¬summed → corrupt 4 (12 + 16 * h[5].toNat) 0) ∧
      (summed → ∀ k : Nat, k < h[5].toNat → (∀ j : Nat, j < k → good j) →
        ((unpackRegion (record k)).valid = false → corrupt 5 (12 + 16 * k) (recordIndex (record k))) ∧
        ((unpackRegion (record k)).valid = true → ¬good k → corrupt 6 (12 + 16 * k) (recordIndex (record k)))) ∧
      (summed → (∀ k : Nat, k < h[5].toNat → good k) →
        ∃ t : State, exec (.endOfLoading body) s = .next t ∧
          (∀ k : Nat, k < h[5].toNat → t.regions[recordIndex (record k)] = unpackRegion (record k)) ∧
          (∀ r : RegionIx, (∀ k : Nat, k < h[5].toNat → recordIndex (record k) ≠ r) →
            t.regions[r] = RegionEntry.off) ∧
          t = { s with regions := t.regions, divider := h[6], drainLimit := h[7],
                       waitLimits := #v[h[8], h[9], h[10], h[11]], image := .valid, operating := .running,
                       boot := .idle } ∧ t.flashSelect = false))

/-! ## Laws of every step -/

/-- What `State.reset` holds meets every law below, and nothing is due in it. -/
def Obligations.ResetMeetsTheLaws : Prop :=
  QueueLaw State.reset ∧ RegionLaw State.reset ∧ TimerLaw State.reset ∧ Lawful State.reset ∧ Settled State.reset

/-- The law of R171, and R8: an entry is valid if it is OFF or none of the bullets of R8 holds of it, the select and the upper
limits being in range by the width of their fields. Every step keeps the queue at 16 records or fewer; a step other than TAKE
EVENT and a power-on reset only adds records at the young end; and an invalid entry never stands in the region table. -/
def Obligations.QueueAndRegionsKeepTheirLaws : Prop :=
  (∀ e : RegionEntry, e.valid = true ↔ e.cls = 0 ∨
    ((12 ≤ e.hostExp.toNat ∧ e.hostExp.toNat ≤ 32) ∧ (2 ≤ e.spanExp.toNat ∧ e.spanExp.toNat ≤ 28) ∧
      2 ^ e.spanExp.toNat ≤ 2 ^ e.hostExp.toNat ∧
      e.hostBase.toNat % 2 ^ e.hostExp.toNat = 0 ∧ e.targetBase.toNat % 2 ^ e.spanExp.toNat = 0 ∧
      e.select.val ≤ 3 ∧ (e.cls = 1 ∨ e.cls = 2 ∨ e.cls = 3) ∧ (e.mode = 0 ∨ e.mode = 1) ∧
      ¬(e.lock = true ∧ e.cls = 3) ∧
      e.verdictLimit.toNat ≤ 4095 ∧ e.strandWindow.toNat ≤ 65535 ∧ 1 ≤ e.lockLimit.toNat ∧ e.lockLimit.toNat ≤ 1023)) ∧
  (∀ s t : State, QueueLaw s → step s = .next t → QueueLaw t) ∧
  (∀ (c : Instr) (s t : State), exec c s = .next t → c ≠ .takeEvent → (∀ b, c ≠ .powerOnReset b) →
    s.events <+: t.events) ∧
  ∀ s t : State, RegionLaw s → step s = .next t → RegionLaw t

/-- The law of R128, with R130: at most one reservation per initiator, no two of one granule, and a holder's lock-lost flag
clear. -/
def Obligations.LocksStayExclusive : Prop :=
  ∀ s t : State, LockLaw s → step s = .next t → LockLaw t

/-- The law of R67, with R73, R128, R138 and R145: from a state in which reservations, records, capture entries and the open
access agree about one another, a LOCK-WRITE that is WAITING or ISSUED having its WRITING reservation, every step leads to
such a state. -/
def Obligations.TablesStayLawful : Prop :=
  ∀ s t : State, Lawful s → step s = .next t → Lawful t

/-! ## Encodings -/

/-- R24, R165 and R166: the bytes of a management command, with any bytes clocked after them, are read back as that command,
and a frame is short exactly if it has fewer parameter bytes than its command; a region record is read back as the entry and
the index it was made of; the codes of the kind field are the commands, 0 to 4 the requests and 5 to 7 the verdicts, and the
message of a request or a verdict is read back as that command; the beat size of a code is 1, 2 or 4 bytes, and none of code
3. A response on the link has its kind, pair and status or reason in their codes, and its beats and the two
beat counts in a DATA alone. -/
def Obligations.EncodingsReadBack : Prop :=
  (∀ (c : Instr) (bytes more : List Byte), c.wellFormed = true → encodeFrame c = some bytes →
    decodeFrame (bytes ++ more) = some c) ∧
  decodeFrame [] = none ∧
  (∀ (code : Byte) (ps : List Byte), decodeFrame (code :: ps) = none ↔ ∃ n : Nat, (code, n) ∈ parameterTable ∧ ps.length < n) ∧
  (∀ (r : RegionIx) (e : RegionEntry), unpackRegion (packRegion r e) = e ∧ recordIndex (packRegion r e) = r) ∧
  (∀ q : Request, let pair : Pair := ⟨q.initiator, q.tag⟩
    decodeMessage ⟨0, q⟩ = .read q ∧ decodeMessage ⟨1, q⟩ = .write q ∧ decodeMessage ⟨2, q⟩ = .lockRead q ∧
    decodeMessage ⟨3, q⟩ = .lockWrite q ∧ decodeMessage ⟨4, q⟩ = .unlock q ∧ decodeMessage ⟨5, q⟩ = .commit pair ∧
    decodeMessage ⟨6, q⟩ = .kill pair ∧ decodeMessage ⟨7, q⟩ = .flush pair) ∧
  (∀ code : BitVec 2, (beatSizeOf code).bytes = if code = 3 then 0 else 2 ^ code.toNat) ∧
  (∀ (c : Instr) (m : LinkMessage), encodeMessage c = some m → decodeMessage m = c) ∧
  (∀ m : LinkMessage, ∃ m' : LinkMessage, encodeMessage (decodeMessage m) = some m' ∧ m'.kind = m.kind ∧
    (m.kind.toNat < 5 → m' = m)) ∧
  (∀ (r : Response) (m : LinkResponse), encodeResponse r = m →
    match r with
    | .data p status strandBeats beats => m.kind = 0 ∧ m.initiator = p.initiator ∧ m.tag = p.tag ∧
        statusNames[m.code.toNat]? = some status ∧ m.validBeats.toNat = beats.length % 16 ∧
        m.strandBeats.toNat = strandBeats % 16 ∧ m.slots = beats
    | .ack p status => m.kind = 1 ∧ m.initiator = p.initiator ∧ m.tag = p.tag ∧
        statusNames[m.code.toNat]? = some status ∧ m.validBeats = 0 ∧ m.strandBeats = 0 ∧ m.slots = []
    | .error p status => m.kind = 2 ∧ m.initiator = p.initiator ∧ m.tag = p.tag ∧
        statusNames[m.code.toNat]? = some status ∧ m.validBeats = 0 ∧ m.strandBeats = 0 ∧ m.slots = []
    | .retry p reason => m.kind = 3 ∧ m.initiator = p.initiator ∧ m.tag = p.tag ∧
        reasonNames[m.code.toNat]? = some reason ∧ m.validBeats = 0 ∧ m.strandBeats = 0 ∧ m.slots = []) ∧
  ∀ r q : Response, encodeResponse r = encodeResponse q →
    (∀ p status n beats, r = .data p status n beats ∨ q = .data p status n beats → n ≤ 8) → r = q
end

