-- ==== Sys2Proof/Laws/State.lean ====
section
/-! SUPPORT. The fields that each single-place update of the state leaves alone, one lemma per field and update, and what
it does to its own; so that no proof unfolds a record update. -/

namespace Sys2Proof.Machine

variable (s : State)

/-! ## setTag -/

@[simp] theorem State.setTag_regions (p : Pair) (r : Option TagRecord) : (s.setTag p r).regions = s.regions := rfl
@[simp] theorem State.setTag_staging (p : Pair) (r : Option TagRecord) : (s.setTag p r).staging = s.staging := rfl
@[simp] theorem State.setTag_apply (p : Pair) (r : Option TagRecord) : (s.setTag p r).apply = s.apply := rfl
@[simp] theorem State.setTag_drainLimit (p : Pair) (r : Option TagRecord) : (s.setTag p r).drainLimit = s.drainLimit := rfl
@[simp] theorem State.setTag_acceptance (p : Pair) (r : Option TagRecord) : (s.setTag p r).acceptance = s.acceptance := rfl
@[simp] theorem State.setTag_entries (p : Pair) (r : Option TagRecord) : (s.setTag p r).entries = s.entries := rfl
@[simp] theorem State.setTag_latch (p : Pair) (r : Option TagRecord) : (s.setTag p r).latch = s.latch := rfl
@[simp] theorem State.setTag_strandCounter (p : Pair) (r : Option TagRecord) : (s.setTag p r).strandCounter = s.strandCounter := rfl
@[simp] theorem State.setTag_allocations (p : Pair) (r : Option TagRecord) : (s.setTag p r).allocations = s.allocations := rfl
@[simp] theorem State.setTag_slots (p : Pair) (r : Option TagRecord) : (s.setTag p r).slots = s.slots := rfl
@[simp] theorem State.setTag_lockLost (p : Pair) (r : Option TagRecord) : (s.setTag p r).lockLost = s.lockLost := rfl
@[simp] theorem State.setTag_pointer (p : Pair) (r : Option TagRecord) : (s.setTag p r).pointer = s.pointer := rfl
@[simp] theorem State.setTag_waitLimits (p : Pair) (r : Option TagRecord) : (s.setTag p r).waitLimits = s.waitLimits := rfl
@[simp] theorem State.setTag_access (p : Pair) (r : Option TagRecord) : (s.setTag p r).access = s.access := rfl
@[simp] theorem State.setTag_events (p : Pair) (r : Option TagRecord) : (s.setTag p r).events = s.events := rfl
@[simp] theorem State.setTag_overflow (p : Pair) (r : Option TagRecord) : (s.setTag p r).overflow = s.overflow := rfl
@[simp] theorem State.setTag_alertMask (p : Pair) (r : Option TagRecord) : (s.setTag p r).alertMask = s.alertMask := rfl
@[simp] theorem State.setTag_port (p : Pair) (r : Option TagRecord) : (s.setTag p r).port = s.port := rfl
@[simp] theorem State.setTag_operating (p : Pair) (r : Option TagRecord) : (s.setTag p r).operating = s.operating := rfl
@[simp] theorem State.setTag_image (p : Pair) (r : Option TagRecord) : (s.setTag p r).image = s.image := rfl
@[simp] theorem State.setTag_boot (p : Pair) (r : Option TagRecord) : (s.setTag p r).boot = s.boot := rfl
@[simp] theorem State.setTag_divider (p : Pair) (r : Option TagRecord) : (s.setTag p r).divider = s.divider := rfl
@[simp] theorem State.setTag_timebase (p : Pair) (r : Option TagRecord) : (s.setTag p r).timebase = s.timebase := rfl
@[simp] theorem State.setTag_responses (p : Pair) (r : Option TagRecord) : (s.setTag p r).responses = s.responses := rfl
@[simp] theorem State.setTag_strobes (p : Pair) (r : Option TagRecord) : (s.setTag p r).strobes = s.strobes := rfl
@[simp] theorem State.setTag_dataIn (p : Pair) (r : Option TagRecord) : (s.setTag p r).dataIn = s.dataIn := rfl
@[simp] theorem State.setTag_pending (p : Pair) (r : Option TagRecord) : (s.setTag p r).pending = s.pending := rfl

/-! ## setEntry -/

@[simp] theorem State.setEntry_regions (e : EntryIx) (c : Option CaptureEntry) : (s.setEntry e c).regions = s.regions := rfl
@[simp] theorem State.setEntry_staging (e : EntryIx) (c : Option CaptureEntry) : (s.setEntry e c).staging = s.staging := rfl
@[simp] theorem State.setEntry_apply (e : EntryIx) (c : Option CaptureEntry) : (s.setEntry e c).apply = s.apply := rfl
@[simp] theorem State.setEntry_drainLimit (e : EntryIx) (c : Option CaptureEntry) : (s.setEntry e c).drainLimit = s.drainLimit := rfl
@[simp] theorem State.setEntry_tags (e : EntryIx) (c : Option CaptureEntry) : (s.setEntry e c).tags = s.tags := rfl
@[simp] theorem State.setEntry_acceptance (e : EntryIx) (c : Option CaptureEntry) : (s.setEntry e c).acceptance = s.acceptance := rfl
@[simp] theorem State.setEntry_latch (e : EntryIx) (c : Option CaptureEntry) : (s.setEntry e c).latch = s.latch := rfl
@[simp] theorem State.setEntry_strandCounter (e : EntryIx) (c : Option CaptureEntry) : (s.setEntry e c).strandCounter = s.strandCounter := rfl
@[simp] theorem State.setEntry_allocations (e : EntryIx) (c : Option CaptureEntry) : (s.setEntry e c).allocations = s.allocations := rfl
@[simp] theorem State.setEntry_slots (e : EntryIx) (c : Option CaptureEntry) : (s.setEntry e c).slots = s.slots := rfl
@[simp] theorem State.setEntry_lockLost (e : EntryIx) (c : Option CaptureEntry) : (s.setEntry e c).lockLost = s.lockLost := rfl
@[simp] theorem State.setEntry_pointer (e : EntryIx) (c : Option CaptureEntry) : (s.setEntry e c).pointer = s.pointer := rfl
@[simp] theorem State.setEntry_waitLimits (e : EntryIx) (c : Option CaptureEntry) : (s.setEntry e c).waitLimits = s.waitLimits := rfl
@[simp] theorem State.setEntry_access (e : EntryIx) (c : Option CaptureEntry) : (s.setEntry e c).access = s.access := rfl
@[simp] theorem State.setEntry_events (e : EntryIx) (c : Option CaptureEntry) : (s.setEntry e c).events = s.events := rfl
@[simp] theorem State.setEntry_overflow (e : EntryIx) (c : Option CaptureEntry) : (s.setEntry e c).overflow = s.overflow := rfl
@[simp] theorem State.setEntry_alertMask (e : EntryIx) (c : Option CaptureEntry) : (s.setEntry e c).alertMask = s.alertMask := rfl
@[simp] theorem State.setEntry_port (e : EntryIx) (c : Option CaptureEntry) : (s.setEntry e c).port = s.port := rfl
@[simp] theorem State.setEntry_operating (e : EntryIx) (c : Option CaptureEntry) : (s.setEntry e c).operating = s.operating := rfl
@[simp] theorem State.setEntry_image (e : EntryIx) (c : Option CaptureEntry) : (s.setEntry e c).image = s.image := rfl
@[simp] theorem State.setEntry_boot (e : EntryIx) (c : Option CaptureEntry) : (s.setEntry e c).boot = s.boot := rfl
@[simp] theorem State.setEntry_divider (e : EntryIx) (c : Option CaptureEntry) : (s.setEntry e c).divider = s.divider := rfl
@[simp] theorem State.setEntry_timebase (e : EntryIx) (c : Option CaptureEntry) : (s.setEntry e c).timebase = s.timebase := rfl
@[simp] theorem State.setEntry_responses (e : EntryIx) (c : Option CaptureEntry) : (s.setEntry e c).responses = s.responses := rfl
@[simp] theorem State.setEntry_strobes (e : EntryIx) (c : Option CaptureEntry) : (s.setEntry e c).strobes = s.strobes := rfl
@[simp] theorem State.setEntry_dataIn (e : EntryIx) (c : Option CaptureEntry) : (s.setEntry e c).dataIn = s.dataIn := rfl
@[simp] theorem State.setEntry_pending (e : EntryIx) (c : Option CaptureEntry) : (s.setEntry e c).pending = s.pending := rfl

/-! ## setSlot -/

@[simp] theorem State.setSlot_regions (k : SlotIx) (r : Option Reservation) : (s.setSlot k r).regions = s.regions := rfl
@[simp] theorem State.setSlot_staging (k : SlotIx) (r : Option Reservation) : (s.setSlot k r).staging = s.staging := rfl
@[simp] theorem State.setSlot_apply (k : SlotIx) (r : Option Reservation) : (s.setSlot k r).apply = s.apply := rfl
@[simp] theorem State.setSlot_drainLimit (k : SlotIx) (r : Option Reservation) : (s.setSlot k r).drainLimit = s.drainLimit := rfl
@[simp] theorem State.setSlot_tags (k : SlotIx) (r : Option Reservation) : (s.setSlot k r).tags = s.tags := rfl
@[simp] theorem State.setSlot_acceptance (k : SlotIx) (r : Option Reservation) : (s.setSlot k r).acceptance = s.acceptance := rfl
@[simp] theorem State.setSlot_entries (k : SlotIx) (r : Option Reservation) : (s.setSlot k r).entries = s.entries := rfl
@[simp] theorem State.setSlot_latch (k : SlotIx) (r : Option Reservation) : (s.setSlot k r).latch = s.latch := rfl
@[simp] theorem State.setSlot_strandCounter (k : SlotIx) (r : Option Reservation) : (s.setSlot k r).strandCounter = s.strandCounter := rfl
@[simp] theorem State.setSlot_allocations (k : SlotIx) (r : Option Reservation) : (s.setSlot k r).allocations = s.allocations := rfl
@[simp] theorem State.setSlot_lockLost (k : SlotIx) (r : Option Reservation) : (s.setSlot k r).lockLost = s.lockLost := rfl
@[simp] theorem State.setSlot_pointer (k : SlotIx) (r : Option Reservation) : (s.setSlot k r).pointer = s.pointer := rfl
@[simp] theorem State.setSlot_waitLimits (k : SlotIx) (r : Option Reservation) : (s.setSlot k r).waitLimits = s.waitLimits := rfl
@[simp] theorem State.setSlot_access (k : SlotIx) (r : Option Reservation) : (s.setSlot k r).access = s.access := rfl
@[simp] theorem State.setSlot_events (k : SlotIx) (r : Option Reservation) : (s.setSlot k r).events = s.events := rfl
@[simp] theorem State.setSlot_overflow (k : SlotIx) (r : Option Reservation) : (s.setSlot k r).overflow = s.overflow := rfl
@[simp] theorem State.setSlot_alertMask (k : SlotIx) (r : Option Reservation) : (s.setSlot k r).alertMask = s.alertMask := rfl
@[simp] theorem State.setSlot_port (k : SlotIx) (r : Option Reservation) : (s.setSlot k r).port = s.port := rfl
@[simp] theorem State.setSlot_operating (k : SlotIx) (r : Option Reservation) : (s.setSlot k r).operating = s.operating := rfl
@[simp] theorem State.setSlot_image (k : SlotIx) (r : Option Reservation) : (s.setSlot k r).image = s.image := rfl
@[simp] theorem State.setSlot_boot (k : SlotIx) (r : Option Reservation) : (s.setSlot k r).boot = s.boot := rfl
@[simp] theorem State.setSlot_divider (k : SlotIx) (r : Option Reservation) : (s.setSlot k r).divider = s.divider := rfl
@[simp] theorem State.setSlot_timebase (k : SlotIx) (r : Option Reservation) : (s.setSlot k r).timebase = s.timebase := rfl
@[simp] theorem State.setSlot_responses (k : SlotIx) (r : Option Reservation) : (s.setSlot k r).responses = s.responses := rfl
@[simp] theorem State.setSlot_strobes (k : SlotIx) (r : Option Reservation) : (s.setSlot k r).strobes = s.strobes := rfl
@[simp] theorem State.setSlot_dataIn (k : SlotIx) (r : Option Reservation) : (s.setSlot k r).dataIn = s.dataIn := rfl
@[simp] theorem State.setSlot_pending (k : SlotIx) (r : Option Reservation) : (s.setSlot k r).pending = s.pending := rfl

/-! ## setLockLost -/

@[simp] theorem State.setLockLost_regions (i : Initiator) (b : Bool) : (s.setLockLost i b).regions = s.regions := rfl
@[simp] theorem State.setLockLost_staging (i : Initiator) (b : Bool) : (s.setLockLost i b).staging = s.staging := rfl
@[simp] theorem State.setLockLost_apply (i : Initiator) (b : Bool) : (s.setLockLost i b).apply = s.apply := rfl
@[simp] theorem State.setLockLost_drainLimit (i : Initiator) (b : Bool) : (s.setLockLost i b).drainLimit = s.drainLimit := rfl
@[simp] theorem State.setLockLost_tags (i : Initiator) (b : Bool) : (s.setLockLost i b).tags = s.tags := rfl
@[simp] theorem State.setLockLost_acceptance (i : Initiator) (b : Bool) : (s.setLockLost i b).acceptance = s.acceptance := rfl
@[simp] theorem State.setLockLost_entries (i : Initiator) (b : Bool) : (s.setLockLost i b).entries = s.entries := rfl
@[simp] theorem State.setLockLost_latch (i : Initiator) (b : Bool) : (s.setLockLost i b).latch = s.latch := rfl
@[simp] theorem State.setLockLost_strandCounter (i : Initiator) (b : Bool) : (s.setLockLost i b).strandCounter = s.strandCounter := rfl
@[simp] theorem State.setLockLost_allocations (i : Initiator) (b : Bool) : (s.setLockLost i b).allocations = s.allocations := rfl
@[simp] theorem State.setLockLost_slots (i : Initiator) (b : Bool) : (s.setLockLost i b).slots = s.slots := rfl
@[simp] theorem State.setLockLost_pointer (i : Initiator) (b : Bool) : (s.setLockLost i b).pointer = s.pointer := rfl
@[simp] theorem State.setLockLost_waitLimits (i : Initiator) (b : Bool) : (s.setLockLost i b).waitLimits = s.waitLimits := rfl
@[simp] theorem State.setLockLost_access (i : Initiator) (b : Bool) : (s.setLockLost i b).access = s.access := rfl
@[simp] theorem State.setLockLost_events (i : Initiator) (b : Bool) : (s.setLockLost i b).events = s.events := rfl
@[simp] theorem State.setLockLost_overflow (i : Initiator) (b : Bool) : (s.setLockLost i b).overflow = s.overflow := rfl
@[simp] theorem State.setLockLost_alertMask (i : Initiator) (b : Bool) : (s.setLockLost i b).alertMask = s.alertMask := rfl
@[simp] theorem State.setLockLost_port (i : Initiator) (b : Bool) : (s.setLockLost i b).port = s.port := rfl
@[simp] theorem State.setLockLost_operating (i : Initiator) (b : Bool) : (s.setLockLost i b).operating = s.operating := rfl
@[simp] theorem State.setLockLost_image (i : Initiator) (b : Bool) : (s.setLockLost i b).image = s.image := rfl
@[simp] theorem State.setLockLost_boot (i : Initiator) (b : Bool) : (s.setLockLost i b).boot = s.boot := rfl
@[simp] theorem State.setLockLost_divider (i : Initiator) (b : Bool) : (s.setLockLost i b).divider = s.divider := rfl
@[simp] theorem State.setLockLost_timebase (i : Initiator) (b : Bool) : (s.setLockLost i b).timebase = s.timebase := rfl
@[simp] theorem State.setLockLost_responses (i : Initiator) (b : Bool) : (s.setLockLost i b).responses = s.responses := rfl
@[simp] theorem State.setLockLost_strobes (i : Initiator) (b : Bool) : (s.setLockLost i b).strobes = s.strobes := rfl
@[simp] theorem State.setLockLost_dataIn (i : Initiator) (b : Bool) : (s.setLockLost i b).dataIn = s.dataIn := rfl
@[simp] theorem State.setLockLost_pending (i : Initiator) (b : Bool) : (s.setLockLost i b).pending = s.pending := rfl

/-! ## setAccess -/

@[simp] theorem State.setAccess_regions (a : Option Access) : (s.setAccess a).regions = s.regions := rfl
@[simp] theorem State.setAccess_staging (a : Option Access) : (s.setAccess a).staging = s.staging := rfl
@[simp] theorem State.setAccess_apply (a : Option Access) : (s.setAccess a).apply = s.apply := rfl
@[simp] theorem State.setAccess_drainLimit (a : Option Access) : (s.setAccess a).drainLimit = s.drainLimit := rfl
@[simp] theorem State.setAccess_tags (a : Option Access) : (s.setAccess a).tags = s.tags := rfl
@[simp] theorem State.setAccess_acceptance (a : Option Access) : (s.setAccess a).acceptance = s.acceptance := rfl
@[simp] theorem State.setAccess_entries (a : Option Access) : (s.setAccess a).entries = s.entries := rfl
@[simp] theorem State.setAccess_latch (a : Option Access) : (s.setAccess a).latch = s.latch := rfl
@[simp] theorem State.setAccess_strandCounter (a : Option Access) : (s.setAccess a).strandCounter = s.strandCounter := rfl
@[simp] theorem State.setAccess_allocations (a : Option Access) : (s.setAccess a).allocations = s.allocations := rfl
@[simp] theorem State.setAccess_slots (a : Option Access) : (s.setAccess a).slots = s.slots := rfl
@[simp] theorem State.setAccess_lockLost (a : Option Access) : (s.setAccess a).lockLost = s.lockLost := rfl
@[simp] theorem State.setAccess_pointer (a : Option Access) : (s.setAccess a).pointer = s.pointer := rfl
@[simp] theorem State.setAccess_waitLimits (a : Option Access) : (s.setAccess a).waitLimits = s.waitLimits := rfl
@[simp] theorem State.setAccess_events (a : Option Access) : (s.setAccess a).events = s.events := rfl
@[simp] theorem State.setAccess_overflow (a : Option Access) : (s.setAccess a).overflow = s.overflow := rfl
@[simp] theorem State.setAccess_alertMask (a : Option Access) : (s.setAccess a).alertMask = s.alertMask := rfl
@[simp] theorem State.setAccess_port (a : Option Access) : (s.setAccess a).port = s.port := rfl
@[simp] theorem State.setAccess_operating (a : Option Access) : (s.setAccess a).operating = s.operating := rfl
@[simp] theorem State.setAccess_image (a : Option Access) : (s.setAccess a).image = s.image := rfl
@[simp] theorem State.setAccess_boot (a : Option Access) : (s.setAccess a).boot = s.boot := rfl
@[simp] theorem State.setAccess_divider (a : Option Access) : (s.setAccess a).divider = s.divider := rfl
@[simp] theorem State.setAccess_timebase (a : Option Access) : (s.setAccess a).timebase = s.timebase := rfl
@[simp] theorem State.setAccess_responses (a : Option Access) : (s.setAccess a).responses = s.responses := rfl
@[simp] theorem State.setAccess_strobes (a : Option Access) : (s.setAccess a).strobes = s.strobes := rfl
@[simp] theorem State.setAccess_dataIn (a : Option Access) : (s.setAccess a).dataIn = s.dataIn := rfl
@[simp] theorem State.setAccess_pending (a : Option Access) : (s.setAccess a).pending = s.pending := rfl

/-! ## respond -/

@[simp] theorem State.respond_regions (r : Response) : (s.respond r).regions = s.regions := rfl
@[simp] theorem State.respond_staging (r : Response) : (s.respond r).staging = s.staging := rfl
@[simp] theorem State.respond_apply (r : Response) : (s.respond r).apply = s.apply := rfl
@[simp] theorem State.respond_drainLimit (r : Response) : (s.respond r).drainLimit = s.drainLimit := rfl
@[simp] theorem State.respond_tags (r : Response) : (s.respond r).tags = s.tags := rfl
@[simp] theorem State.respond_acceptance (r : Response) : (s.respond r).acceptance = s.acceptance := rfl
@[simp] theorem State.respond_entries (r : Response) : (s.respond r).entries = s.entries := rfl
@[simp] theorem State.respond_latch (r : Response) : (s.respond r).latch = s.latch := rfl
@[simp] theorem State.respond_strandCounter (r : Response) : (s.respond r).strandCounter = s.strandCounter := rfl
@[simp] theorem State.respond_allocations (r : Response) : (s.respond r).allocations = s.allocations := rfl
@[simp] theorem State.respond_slots (r : Response) : (s.respond r).slots = s.slots := rfl
@[simp] theorem State.respond_lockLost (r : Response) : (s.respond r).lockLost = s.lockLost := rfl
@[simp] theorem State.respond_pointer (r : Response) : (s.respond r).pointer = s.pointer := rfl
@[simp] theorem State.respond_waitLimits (r : Response) : (s.respond r).waitLimits = s.waitLimits := rfl
@[simp] theorem State.respond_access (r : Response) : (s.respond r).access = s.access := rfl
@[simp] theorem State.respond_events (r : Response) : (s.respond r).events = s.events := rfl
@[simp] theorem State.respond_overflow (r : Response) : (s.respond r).overflow = s.overflow := rfl
@[simp] theorem State.respond_alertMask (r : Response) : (s.respond r).alertMask = s.alertMask := rfl
@[simp] theorem State.respond_port (r : Response) : (s.respond r).port = s.port := rfl
@[simp] theorem State.respond_operating (r : Response) : (s.respond r).operating = s.operating := rfl
@[simp] theorem State.respond_image (r : Response) : (s.respond r).image = s.image := rfl
@[simp] theorem State.respond_boot (r : Response) : (s.respond r).boot = s.boot := rfl
@[simp] theorem State.respond_divider (r : Response) : (s.respond r).divider = s.divider := rfl
@[simp] theorem State.respond_timebase (r : Response) : (s.respond r).timebase = s.timebase := rfl
@[simp] theorem State.respond_strobes (r : Response) : (s.respond r).strobes = s.strobes := rfl
@[simp] theorem State.respond_dataIn (r : Response) : (s.respond r).dataIn = s.dataIn := rfl
@[simp] theorem State.respond_pending (r : Response) : (s.respond r).pending = s.pending := rfl

/-! ## raise -/

@[simp] theorem State.raise_regions (e : EventRecord) : (s.raise e).regions = s.regions := rfl
@[simp] theorem State.raise_staging (e : EventRecord) : (s.raise e).staging = s.staging := rfl
@[simp] theorem State.raise_apply (e : EventRecord) : (s.raise e).apply = s.apply := rfl
@[simp] theorem State.raise_drainLimit (e : EventRecord) : (s.raise e).drainLimit = s.drainLimit := rfl
@[simp] theorem State.raise_tags (e : EventRecord) : (s.raise e).tags = s.tags := rfl
@[simp] theorem State.raise_acceptance (e : EventRecord) : (s.raise e).acceptance = s.acceptance := rfl
@[simp] theorem State.raise_entries (e : EventRecord) : (s.raise e).entries = s.entries := rfl
@[simp] theorem State.raise_latch (e : EventRecord) : (s.raise e).latch = s.latch := rfl
@[simp] theorem State.raise_strandCounter (e : EventRecord) : (s.raise e).strandCounter = s.strandCounter := rfl
@[simp] theorem State.raise_allocations (e : EventRecord) : (s.raise e).allocations = s.allocations := rfl
@[simp] theorem State.raise_slots (e : EventRecord) : (s.raise e).slots = s.slots := rfl
@[simp] theorem State.raise_lockLost (e : EventRecord) : (s.raise e).lockLost = s.lockLost := rfl
@[simp] theorem State.raise_pointer (e : EventRecord) : (s.raise e).pointer = s.pointer := rfl
@[simp] theorem State.raise_waitLimits (e : EventRecord) : (s.raise e).waitLimits = s.waitLimits := rfl
@[simp] theorem State.raise_access (e : EventRecord) : (s.raise e).access = s.access := rfl
@[simp] theorem State.raise_alertMask (e : EventRecord) : (s.raise e).alertMask = s.alertMask := rfl
@[simp] theorem State.raise_port (e : EventRecord) : (s.raise e).port = s.port := rfl
@[simp] theorem State.raise_operating (e : EventRecord) : (s.raise e).operating = s.operating := rfl
@[simp] theorem State.raise_image (e : EventRecord) : (s.raise e).image = s.image := rfl
@[simp] theorem State.raise_boot (e : EventRecord) : (s.raise e).boot = s.boot := rfl
@[simp] theorem State.raise_divider (e : EventRecord) : (s.raise e).divider = s.divider := rfl
@[simp] theorem State.raise_timebase (e : EventRecord) : (s.raise e).timebase = s.timebase := rfl
@[simp] theorem State.raise_responses (e : EventRecord) : (s.raise e).responses = s.responses := rfl
@[simp] theorem State.raise_strobes (e : EventRecord) : (s.raise e).strobes = s.strobes := rfl
@[simp] theorem State.raise_dataIn (e : EventRecord) : (s.raise e).dataIn = s.dataIn := rfl
@[simp] theorem State.raise_pending (e : EventRecord) : (s.raise e).pending = s.pending := rfl

/-! ## What each update does to its own field -/

@[simp] theorem State.setAccess_access (a : Option Access) : (s.setAccess a).access = a := rfl
@[simp] theorem State.respond_responses (r : Response) : (s.respond r).responses = s.responses ++ [r] := rfl

/-- A record made live, or free, is what its pair then names. -/
@[simp] theorem State.tag_setTag_self (p : Pair) (r : Option TagRecord) : (s.setTag p r).tag p = r := by
  simp [State.tag, State.setTag]

/-- The records of the other pairs stay. -/
theorem State.tag_setTag_of_ne {p q : Pair} (h : q ≠ p) (r : Option TagRecord) : (s.setTag p r).tag q = s.tag q := by
  obtain ⟨pi, pt⟩ := p
  obtain ⟨qi, qt⟩ := q
  simp only [State.tag, State.setTag, Fin.getElem_fin, Vector.getElem_set]
  by_cases hi : pi.val = qi.val
  · have ht : pt.val ≠ qt.val := fun ht => h (by rw [Fin.ext hi, Fin.ext ht])
    simp [hi, ht]
  · simp [hi]

/-- The record of any pair after one has been set. -/
theorem State.tag_setTag (p q : Pair) (r : Option TagRecord) :
    (s.setTag p r).tag q = if q = p then r else s.tag q := by
  by_cases h : q = p
  · subst h; simp
  · simp [h, s.tag_setTag_of_ne h]

/-- The entry of any number after one has been set. -/
theorem State.entries_setEntry (e d : EntryIx) (c : Option CaptureEntry) :
    (s.setEntry e c).entries[d] = if d = e then c else s.entries[d] := by
  simp only [State.setEntry, Fin.getElem_fin, Vector.getElem_set, Fin.ext_iff, eq_comm]

@[simp] theorem State.entries_setEntry_self (e : EntryIx) (c : Option CaptureEntry) :
    (s.setEntry e c).entries[e] = c := by simp [State.setEntry]

/-- The slot of any number after one has been set. -/
theorem State.slots_setSlot (k l : SlotIx) (r : Option Reservation) :
    (s.setSlot k r).slots[l] = if l = k then r else s.slots[l] := by
  simp only [State.setSlot, Fin.getElem_fin, Vector.getElem_set, Fin.ext_iff, eq_comm]

/-- The flag of any initiator after one has been set. -/
theorem State.lockLost_setLockLost (i j : Initiator) (b : Bool) :
    (s.setLockLost i b).lockLost[j] = if j = i then b else s.lockLost[j] := by
  simp only [State.setLockLost, Fin.getElem_fin, Vector.getElem_set, Fin.ext_iff, eq_comm]

/-! ## A record is read through the tag table alone -/

@[simp] theorem State.tag_setEntry (e : EntryIx) (c : Option CaptureEntry) (p : Pair) :
    (s.setEntry e c).tag p = s.tag p := rfl
@[simp] theorem State.tag_setSlot (k : SlotIx) (r : Option Reservation) (p : Pair) : (s.setSlot k r).tag p = s.tag p := rfl
@[simp] theorem State.tag_setLockLost (i : Initiator) (b : Bool) (p : Pair) : (s.setLockLost i b).tag p = s.tag p := rfl
@[simp] theorem State.tag_setAccess (a : Option Access) (p : Pair) : (s.setAccess a).tag p = s.tag p := rfl
@[simp] theorem State.tag_respond (r : Response) (p : Pair) : (s.respond r).tag p = s.tag p := rfl
@[simp] theorem State.tag_raise (e : EventRecord) (p : Pair) : (s.raise e).tag p = s.tag p := rfl

/-- A queue with room stores the record, with the timebase counter as its timestamp, and leaves the flag. -/
theorem State.raise_stores (e : EventRecord) (h : s.events.length < Config.queueDepth) :
    (s.raise e).events = s.events ++ [{ e with timestamp := s.timebase }] ∧ (s.raise e).overflow = s.overflow := by
  simp [State.raise, h]

/-- A full queue refuses the record and the overflow flag is set. -/
theorem State.raise_refuses (e : EventRecord) (h : ¬ s.events.length < Config.queueDepth) :
    (s.raise e).events = s.events ∧ (s.raise e).overflow = true := by
  simp [State.raise, h]

end Sys2Proof.Machine
end

