-- ==== Sys2Proof/Laws/Ops.lean ====
section
/-! SUPPORT. For each shared operation, which fields of the state it can change at all. A lemma `op_only` says: the
result is the state with new values in the named fields and every other field as it was. -/

namespace Sys2Proof.Machine

/-- An operation folded over a list changes only what each application changes. -/
theorem foldl_only {α β : Type} (put : State → β → State) (f : State → α → State)
    (hid : ∀ s, ∃ b, s = put s b) (hput : ∀ s b c, put (put s b) c = put s c)
    (hf : ∀ s a, ∃ b, f s a = put s b) (l : List α) (s : State) : ∃ b, l.foldl f s = put s b := by
  induction l generalizing s with
  | nil => exact hid s
  | cons a l ih =>
    obtain ⟨b, hb⟩ := hf s a
    obtain ⟨c, hc⟩ := ih (f s a)
    exact ⟨c, by rw [List.foldl_cons, hc, hb, hput]⟩

/-! ## Capture entries and strands -/

theorem strandEntry_only (e : EntryIx) (s : State) :
    ∃ es n, strandEntry e s = { s with entries := es, strandCounter := n } := by
  unfold strandEntry
  split
  · exact ⟨_, _, rfl⟩
  · exact ⟨_, _, rfl⟩

theorem strandAll_only (l : List Numbered) (s : State) :
    ∃ es n, strandAll l s = { s with entries := es, strandCounter := n } := by
  obtain ⟨b, hb⟩ := foldl_only (β := Vector (Option CaptureEntry) 32 × Nat)
    (fun s b => { s with entries := b.1, strandCounter := b.2 }) (fun s (ec : Numbered) => strandEntry ec.1 s)
    (fun s => ⟨(s.entries, s.strandCounter), rfl⟩) (fun _ _ _ => rfl)
    (fun s a => (strandEntry_only a.1 s).elim fun es h => h.elim fun n h => ⟨(es, n), h⟩)
    (sortBy CaptureEntry.allocation l) s
  exact ⟨b.1, b.2, hb⟩

theorem unbindEntry_only (e : EntryIx) (s : State) : ∃ es, unbindEntry e s = { s with entries := es } := by
  unfold unbindEntry
  split
  · exact ⟨_, rfl⟩
  · split <;> exact ⟨_, rfl⟩

theorem appendBeat_only (e : EntryIx) (v : Word) (s : State) : ∃ es, appendBeat e v s = { s with entries := es } := by
  unfold appendBeat
  split <;> exact ⟨_, rfl⟩

theorem endUnbound_only (e : EntryIx) (s : State) :
    ∃ es n, endUnbound e s = { s with entries := es, strandCounter := n } := by
  unfold endUnbound
  split
  · exact ⟨_, _, rfl⟩
  · split
    · exact ⟨_, _, rfl⟩
    · exact strandEntry_only e s

/-! ## Release and removal -/

theorem clearLockRead_only (p : Pair) (s : State) : ∃ sl, clearLockRead p s = { s with slots := sl } := by
  unfold clearLockRead
  split <;> exact ⟨_, rfl⟩

theorem freeWriting_only (p : Pair) (s : State) : ∃ sl, freeWriting p s = { s with slots := sl } := by
  unfold freeWriting
  split <;> exact ⟨_, rfl⟩

theorem freeEntryOf_only (r : TagRecord) (s : State) : ∃ es, freeEntryOf r s = { s with entries := es } := by
  unfold freeEntryOf
  split <;> exact ⟨_, rfl⟩

theorem releaseRecord_only (p : Pair) (r : TagRecord) (s : State) :
    ∃ ts es sl, releaseRecord p r s = { s with tags := ts, entries := es, slots := sl } := by
  obtain ⟨es, he⟩ := freeEntryOf_only r (s.setTag p none)
  obtain ⟨sl, hs⟩ := clearLockRead_only p (freeEntryOf r (s.setTag p none))
  exact ⟨(s.setTag p none).tags, es, sl, by rw [releaseRecord, hs, he]; rfl⟩

theorem releaseIfFinished_only (p : Pair) (s : State) :
    ∃ ts es sl, releaseIfFinished p s = { s with tags := ts, entries := es, slots := sl } := by
  unfold releaseIfFinished
  split
  · split
    · exact releaseRecord_only _ _ _
    · exact ⟨_, _, _, rfl⟩
  · exact ⟨_, _, _, rfl⟩

theorem endAccessOf_only (p : Pair) (s : State) :
    ∃ a es n, endAccessOf p s = { s with access := a, entries := es, strandCounter := n } := by
  unfold endAccessOf
  split
  · exact ⟨_, _, _, rfl⟩
  · split
    · split
      · split
        · obtain ⟨es, h⟩ := unbindEntry_only ‹_› (s.setAccess (some { ‹Access› with live := false }))
          exact ⟨_, es, s.strandCounter, by rw [h]; rfl⟩
        · exact ⟨_, _, _, rfl⟩
      · split
        · obtain ⟨es, n, h⟩ := endUnbound_only ‹_› (s.setAccess none)
          exact ⟨_, es, n, by rw [h]; rfl⟩
        · exact ⟨_, _, _, rfl⟩
    · exact ⟨_, _, _, rfl⟩

theorem endWithoutWrite_only (p : Pair) (s : State) :
    ∃ ts es sl rs, endWithoutWrite p s = { s with tags := ts, entries := es, slots := sl, responses := rs } := by
  unfold endWithoutWrite
  split
  · exact ⟨_, _, _, _, rfl⟩
  · obtain ⟨ts, es, sl, h⟩ := releaseIfFinished_only p ((s.setTag p (some { ‹TagRecord› with
      position := .done, data := [], response := .sent })).respond (.ack p .lockLost))
    exact ⟨ts, es, sl, _, by rw [h]; rfl⟩

theorem lockReadRemoved_only (p : Pair) (s : State) :
    ∃ ts es sl rs, lockReadRemoved p s = { s with tags := ts, entries := es, slots := sl, responses := rs } := by
  unfold lockReadRemoved
  split
  · exact ⟨_, _, _, _, rfl⟩
  · split
    · exact ⟨_, _, _, _, rfl⟩
    · split
      · exact ⟨_, _, _, _, rfl⟩
      · obtain ⟨ts, es, sl, rs, h⟩ := endWithoutWrite_only ⟨p.initiator, ‹Tag›⟩ (s.setSlot ‹SlotIx› none)
        exact ⟨ts, es, sl, rs, by rw [h]; rfl⟩

theorem lockTableRemoval_only (p : Pair) (r : TagRecord) (s : State) :
    ∃ ts es sl rs, lockTableRemoval p r s = { s with tags := ts, entries := es, slots := sl, responses := rs } := by
  unfold lockTableRemoval
  split
  · exact lockReadRemoved_only p s
  · split
    · obtain ⟨sl, h⟩ := freeWriting_only p s
      exact ⟨_, _, sl, _, h⟩
    · exact ⟨_, _, _, _, rfl⟩
  all_goals exact ⟨_, _, _, _, rfl⟩

theorem dropRecord_only (p : Pair) (s : State) :
    ∃ ts es n a sl rs, dropRecord p s =
      { s with tags := ts, entries := es, strandCounter := n, access := a, slots := sl, responses := rs } := by
  unfold dropRecord
  split
  · exact ⟨_, _, _, _, _, _, rfl⟩
  · obtain ⟨a, es, n, h⟩ := endAccessOf_only p (s.setTag p none)
    obtain ⟨ts, es', sl, rs, h'⟩ := lockTableRemoval_only p ‹_› (endAccessOf p (s.setTag p none))
    exact ⟨ts, es', n, a, sl, rs, by rw [h', h]; rfl⟩

theorem removeRecords_only (ps : List Pair) (s : State) :
    ∃ ts es n a sl rs, removeRecords ps s =
      { s with tags := ts, entries := es, strandCounter := n, access := a, slots := sl, responses := rs } := by
  obtain ⟨es, n, h⟩ := strandAll_only (s.capturedBy fun p => ps.contains p) s
  obtain ⟨b, hb⟩ := foldl_only
    (β := Vector (Vector (Option TagRecord) 16) 8 × Vector (Option CaptureEntry) 32 × Nat × Option Access ×
      Vector (Option Reservation) 4 × List Response)
    (fun s b => { s with tags := b.1, entries := b.2.1, strandCounter := b.2.2.1, access := b.2.2.2.1,
                         slots := b.2.2.2.2.1, responses := b.2.2.2.2.2 })
    (fun s p => dropRecord p s)
    (fun s => ⟨(s.tags, s.entries, s.strandCounter, s.access, s.slots, s.responses), rfl⟩) (fun _ _ _ => rfl)
    (fun s p => by
      obtain ⟨ts, es, n, a, sl, rs, h⟩ := dropRecord_only p s
      exact ⟨(ts, es, n, a, sl, rs), h⟩)
    (ps.filter (fun p => (s.tag p).any fun r => decide (r.kind = .lockWrite)) ++
      ps.filter fun p => !(s.tag p).any fun r => decide (r.kind = .lockWrite))
    (strandAll (s.capturedBy fun p => ps.contains p) s)
  exact ⟨_, _, _, _, _, _, by rw [removeRecords, hb, h]⟩

/-! ## The end of a target part -/

theorem endRead_only (a : Access) (f : Option Status) (s : State) :
    ∃ ts es sl rs, endRead a f s = { s with tags := ts, entries := es, slots := sl, responses := rs } := by
  unfold endRead
  split
  · exact ⟨_, _, _, _, rfl⟩
  · simp only
    split
    · obtain ⟨ts, es, sl, h⟩ := releaseRecord_only a.pair _ _
      exact ⟨ts, es, sl, _, by rw [h]; rfl⟩
    · exact ⟨_, _, _, _, rfl⟩
    · split
      · exact ⟨_, _, _, _, rfl⟩
      · split <;> split <;> exact ⟨_, _, _, _, rfl⟩

theorem endWrite_only (a : Access) (st : Status) (s : State) :
    ∃ ts es sl rs, endWrite a st s = { s with tags := ts, entries := es, slots := sl, responses := rs } := by
  unfold endWrite
  split
  · exact ⟨_, _, _, _, rfl⟩
  · simp only
    obtain ⟨ts, es, sl, h⟩ := releaseIfFinished_only a.pair _
    rw [h]
    obtain ⟨sl', hw⟩ := freeWriting_only a.pair s
    split <;> split <;> first | exact ⟨_, _, _, _, rfl⟩ | exact ⟨_, _, _, _, by rw [hw]; rfl⟩

theorem endRemoved_only (a : Access) (v : Option Word) (s : State) :
    ∃ es n, endRemoved a v s = { s with entries := es, strandCounter := n } := by
  unfold endRemoved
  split
  · exact ⟨_, _, rfl⟩
  · split
    · obtain ⟨es, h⟩ := appendBeat_only ‹EntryIx› ‹Word› s
      obtain ⟨es', n, h'⟩ := endUnbound_only ‹EntryIx› (appendBeat ‹EntryIx› ‹Word› s)
      exact ⟨es', n, by rw [h', h]⟩
    · exact endUnbound_only _ s

/-! ## Discard, region changes, locks -/

theorem freeEntries_only (l : List Numbered) (s : State) : ∃ es, freeEntries l s = { s with entries := es } :=
  foldl_only (β := Vector (Option CaptureEntry) 32) (fun s b => { s with entries := b })
    (fun s (ec : Numbered) => s.setEntry ec.1 none) (fun s => ⟨s.entries, rfl⟩) (fun _ _ _ => rfl)
    (fun _ _ => ⟨_, rfl⟩) l s

theorem discard_only (l : List Numbered) (ev : EventRecord) (s : State) :
    ∃ es q o, discard l ev s = { s with entries := es, events := q, overflow := o } := by
  unfold discard
  split
  · exact ⟨_, _, _, rfl⟩
  · obtain ⟨es, h⟩ := freeEntries_only l s
    exact ⟨es, _, _, by rw [h]; rfl⟩

theorem makeChange_only (r : RegionIx) (s : State) :
    ∃ g es q o, makeChange r s = { s with regions := g, entries := es, events := q, overflow := o } := by
  obtain ⟨es, q, o, h⟩ := discard_only (s.entriesWhere fun c => c.isStrand && decide (c.region = r))
    { kind := .strandsDiscarded, region := r } { s with regions := s.regions.set r s.staging }
  exact ⟨_, es, q, o, by rw [makeChange, h]⟩

theorem breakReservation_only (k : SlotIx) (r : Reservation) (cause : Nat) (s : State) :
    ∃ ts sl ll q o, breakReservation k r cause s =
      { s with tags := ts, slots := sl, lockLost := ll, events := q, overflow := o } := by
  unfold breakReservation
  simp only
  split
  · exact ⟨_, _, _, _, _, rfl⟩
  · split <;> exact ⟨_, _, _, _, _, rfl⟩

theorem unlockEffect_only (i : Initiator) (s : State) :
    ∃ sl ll, (unlockEffect i s).2 = { s with slots := sl, lockLost := ll } := by
  unfold unlockEffect
  split
  · split <;> exact ⟨_, _, rfl⟩
  · split <;> exact ⟨_, _, rfl⟩

theorem performUnlock_only (p : Pair) (s : State) :
    ∃ ts es sl ll rs, performUnlock p s =
      { s with tags := ts, entries := es, slots := sl, lockLost := ll, responses := rs } := by
  unfold performUnlock
  split
  · exact ⟨_, _, _, _, _, rfl⟩
  · simp only
    obtain ⟨sl, ll, h⟩ := unlockEffect_only p.initiator s
    obtain ⟨ts, es, sl', h'⟩ := releaseIfFinished_only p _
    rw [h', h]
    exact ⟨_, _, _, _, _, rfl⟩

/-! ## What the tables bring about at the end of an event -/

theorem performReady_only (i : Initiator) (n : Nat) (s : State) :
    ∃ ts es sl ll rs, performReady i n s =
      { s with tags := ts, entries := es, slots := sl, lockLost := ll, responses := rs } := by
  induction n generalizing s with
  | zero => exact ⟨_, _, _, _, _, rfl⟩
  | succ n ih =>
    unfold performReady
    split
    · exact ⟨_, _, _, _, _, rfl⟩
    · obtain ⟨ts, es, sl, ll, rs, h⟩ := performUnlock_only ‹Pair› s
      obtain ⟨ts', es', sl', ll', rs', h'⟩ := ih (performUnlock ‹Pair› s)
      exact ⟨_, _, _, _, _, by rw [h', h]⟩

theorem performUnlocks_only (s : State) :
    ∃ ts es sl ll rs, performUnlocks s =
      { s with tags := ts, entries := es, slots := sl, lockLost := ll, responses := rs } := by
  obtain ⟨b, hb⟩ := foldl_only
    (β := Vector (Vector (Option TagRecord) 16) 8 × Vector (Option CaptureEntry) 32 × Vector (Option Reservation) 4 ×
      Vector Bool 8 × List Response)
    (fun s b => { s with tags := b.1, entries := b.2.1, slots := b.2.2.1, lockLost := b.2.2.2.1,
                         responses := b.2.2.2.2 })
    (fun s i => performReady i 16 s)
    (fun s => ⟨(s.tags, s.entries, s.slots, s.lockLost, s.responses), rfl⟩) (fun _ _ _ => rfl)
    (fun s i => by
      obtain ⟨ts, es, sl, ll, rs, h⟩ := performReady_only i 16 s
      exact ⟨(ts, es, sl, ll, rs), h⟩) (List.finRange 8) s
  exact ⟨_, _, _, _, _, hb⟩

theorem completeDrain_only (s : State) :
    ∃ a g es q o, completeDrain s =
      { s with apply := a, regions := g, entries := es, events := q, overflow := o } := by
  unfold completeDrain
  split
  · exact ⟨_, _, _, _, _, rfl⟩
  · split
    · obtain ⟨g, es, q, o, h⟩ := makeChange_only ‹RegionIx› { s with apply := .idle }
      exact ⟨.idle, g, es, _, _, by rw [h]; rfl⟩
    · exact ⟨_, _, _, _, _, rfl⟩

theorem latchSet_only (b s : State) :
    ∃ q o l, latchSet b s = { s with events := q, overflow := o, latch := l } := by
  unfold latchSet
  split
  · exact ⟨_, _, _, rfl⟩
  · split <;> exact ⟨_, _, _, rfl⟩

theorem latchClear_only (b s : State) : ∃ l, latchClear b s = { s with latch := l } := by
  unfold latchClear
  split <;> exact ⟨_, rfl⟩

/-- What `settle` can change: it opens no access, strands nothing, and takes no new record. -/
theorem settle_only (b s : State) :
    ∃ ts es sl ll rs a g q o l, settle b s =
      { s with tags := ts, entries := es, slots := sl, lockLost := ll, responses := rs, apply := a, regions := g
               events := q, overflow := o, latch := l } := by
  obtain ⟨ts, es, sl, ll, rs, h1⟩ := performUnlocks_only s
  obtain ⟨a, g, es', q, o, h2⟩ := completeDrain_only (performUnlocks s)
  obtain ⟨q', o', l, h3⟩ := latchSet_only b (completeDrain (performUnlocks s))
  obtain ⟨l', h4⟩ := latchClear_only b (latchSet b (completeDrain (performUnlocks s)))
  exact ⟨ts, es', sl, ll, rs, a, g, q', o', l', by rw [settle, followLatch, h4, h3, h2, h1]⟩

end Sys2Proof.Machine
end

