-- ==== Sys2Proof/Laws/PerInstr.lean ====
section
/-! SUPPORT. What is proved of every command, one lemma per constructor. -/

namespace Sys2Proof.Laws

/-- A command comes by one port at most: no command is both a message of the host link (R24) and a frame of the management
port (R165). -/
def OnePort.Statement (c : Instr) : Prop := encodeMessage c = none ∨ encodeFrame c = none

theorem OnePort.powerOnReset (bootsel : Bool) : OnePort.Statement (.powerOnReset bootsel) := .inl rfl
theorem OnePort.hostLinkReset : OnePort.Statement (.hostLinkReset) := .inl rfl
theorem OnePort.read (r : Request) : OnePort.Statement (.read r) := .inr rfl
theorem OnePort.write (r : Request) : OnePort.Statement (.write r) := .inr rfl
theorem OnePort.lockRead (r : Request) : OnePort.Statement (.lockRead r) := .inr rfl
theorem OnePort.lockWrite (r : Request) : OnePort.Statement (.lockWrite r) := .inr rfl
theorem OnePort.unlock (r : Request) : OnePort.Statement (.unlock r) := .inr rfl
theorem OnePort.commit (p : Pair) : OnePort.Statement (.commit p) := .inr rfl
theorem OnePort.kill (p : Pair) : OnePort.Statement (.kill p) := .inr rfl
theorem OnePort.flush (p : Pair) : OnePort.Statement (.flush p) := .inr rfl
theorem OnePort.verdictTimerExpiry (p : Pair) : OnePort.Statement (.verdictTimerExpiry p) := .inl rfl
theorem OnePort.strandTimerExpiry (e : EntryIx) : OnePort.Statement (.strandTimerExpiry e) := .inl rfl
theorem OnePort.lockTimerExpiry (k : SlotIx) : OnePort.Statement (.lockTimerExpiry k) := .inl rfl
theorem OnePort.drainTimerExpiry : OnePort.Statement (.drainTimerExpiry) := .inl rfl
theorem OnePort.waitTimerExpiry : OnePort.Statement (.waitTimerExpiry) := .inl rfl
theorem OnePort.timebaseTick : OnePort.Statement .timebaseTick := .inl rfl
theorem OnePort.drainComplete : OnePort.Statement (.drainComplete) := .inl rfl
theorem OnePort.grant : OnePort.Statement (.grant) := .inl rfl
theorem OnePort.beatIssue : OnePort.Statement (.beatIssue) := .inl rfl
theorem OnePort.targetReady (lines : Word) : OnePort.Statement (.targetReady lines) := .inl rfl
theorem OnePort.targetError (ready : Bool) : OnePort.Statement (.targetError ready) := .inl rfl
theorem OnePort.strayAnswer (error : Bool) : OnePort.Statement (.strayAnswer error) := .inl rfl
theorem OnePort.unlockPerform (i : Initiator) : OnePort.Statement (.unlockPerform i) := .inl rfl
theorem OnePort.getStatus : OnePort.Statement (.getStatus) := .inl rfl
theorem OnePort.takeEvent : OnePort.Statement (.takeEvent) := .inl rfl
theorem OnePort.setAlertMask (mask : BitVec 24) : OnePort.Statement (.setAlertMask mask) := .inl rfl
theorem OnePort.clearOverflow : OnePort.Statement (.clearOverflow) := .inl rfl
theorem OnePort.stageRegion (record : Vector Byte 16) : OnePort.Statement (.stageRegion record) := .inl rfl
theorem OnePort.applyRegion (index : Byte) : OnePort.Statement (.applyRegion index) := .inl rfl
theorem OnePort.readRegion (index : Byte) : OnePort.Statement (.readRegion index) := .inl rfl
theorem OnePort.setSelect (select : Byte) (limit : Byte) : OnePort.Statement (.setSelect select limit) := .inl rfl
theorem OnePort.readTag (initiator : Byte) (tag : Byte) : OnePort.Statement (.readTag initiator tag) := .inl rfl
theorem OnePort.readCapture (entry : Byte) : OnePort.Statement (.readCapture entry) := .inl rfl
theorem OnePort.readReservations : OnePort.Statement (.readReservations) := .inl rfl
theorem OnePort.discardStrands (scope : Byte) (region : Byte) (select : Byte) (address : Word) : OnePort.Statement (.discardStrands scope region select address) := .inl rfl
theorem OnePort.breakLock (initiator : Byte) : OnePort.Statement (.breakLock initiator) := .inl rfl
theorem OnePort.hold : OnePort.Statement (.hold) := .inl rfl
theorem OnePort.release : OnePort.Statement (.release) := .inl rfl
theorem OnePort.unknownCommand (code : Byte) : OnePort.Statement (.unknownCommand code) := .inl rfl
theorem OnePort.frameEnd : OnePort.Statement (.frameEnd) := .inl rfl
theorem OnePort.headerReadDone (header : Vector Byte 12) : OnePort.Statement (.headerReadDone header) := .inl rfl
theorem OnePort.endOfLoading (body : List Byte) : OnePort.Statement (.endOfLoading body) := .inl rfl
theorem OnePort.frameStart : OnePort.Statement (.frameStart) := .inl rfl

end Sys2Proof.Laws
end

