-- ==== Sys2Proof/Laws/Port.lean ====
section
/-! SUPPORT. What the management port can do at a byte, and a step at all: nothing but what a command does, and moving the
frame and the bytes that wait. -/

namespace Sys2Proof.Machine

/-- Taking a command: nothing, or what the command does, and the frame. -/
theorem takeCommand_only (code : Byte) (params : List Byte) (act : State → Reply) (s : State) :
    takeCommand code params act s = s ∨ ∃ p, takeCommand code params act s = { (act s).state with port := p } := by
  unfold takeCommand
  split
  · exact .inl rfl
  · exact .inl rfl
  · split
    · exact .inr ⟨_, rfl⟩
    · exact .inl rfl

theorem receiveBytes_cases (bytes : List Byte) (s : State) :
    (∃ p, receiveBytes bytes s = .next { s with port := p }) ∨ ∃ c, receiveBytes bytes s = exec c s := by
  unfold receiveBytes
  split
  · exact .inr ⟨_, rfl⟩
  · exact .inl ⟨_, rfl⟩

/-- A byte clocked in moves the frame, or takes a command. -/
theorem clockByte_cases (b : Byte) (s : State) :
    (∃ p, clockByte b s = .next { s with port := p }) ∨ ∃ c, clockByte b s = exec c s := by
  unfold clockByte
  split
  · exact .inl ⟨s.port, rfl⟩
  · exact .inl ⟨s.port, rfl⟩
  · split
    · exact receiveBytes_cases _ s
    · exact receiveBytes_cases _ s
    · exact .inl ⟨_, rfl⟩
    · exact .inl ⟨_, rfl⟩

/-- A step idles, moves the frame, or is the execution of a command, on a state that differs in what waits alone. -/
theorem step_cases (s : State) :
    (∃ p d, step s = .next { s with port := p, dataIn := d }) ∨
      ∃ c d q, step s = exec c { s with dataIn := d, pending := q } := by
  unfold step
  split
  · unfold clockNext
    split
    · exact .inl ⟨s.port, s.dataIn, rfl⟩
    · rename_i b rest _
      obtain ⟨p, h⟩ | ⟨c, h⟩ := clockByte_cases b { s with dataIn := rest }
      · exact .inl ⟨p, rest, h⟩
      · exact .inr ⟨c, rest, s.pending, h⟩
  · exact .inr ⟨_, s.dataIn, _, rfl⟩

end Sys2Proof.Machine
end

