-- ==== Sys2Proof/Laws/Timers.lean ====
section
/-! SUPPORT. What an expiry and a tick can change, in the form of `Laws/Ops.lean`, and that an expiry that is not due changes
nothing. -/

namespace Sys2Proof.Machine

/-- `t` differs from `s` at most in what an expiry can change: the tables, the apply state, the responses, the events and
the latch. -/
abbrev ExpiryChanges (s t : State) : Prop :=
  ∃ ts es n ac sl rs ll a g q o l, t =
    { s with tags := ts, entries := es, strandCounter := n, access := ac, slots := sl, responses := rs, lockLost := ll
             apply := a, regions := g, events := q, overflow := o, latch := l }

theorem ExpiryChanges.refl (s : State) : ExpiryChanges s s := ⟨_, _, _, _, _, _, _, _, _, _, _, _, rfl⟩

theorem ExpiryChanges.trans {s t u : State} (h : ExpiryChanges s t) (k : ExpiryChanges t u) : ExpiryChanges s u := by
  obtain ⟨_, _, _, _, _, _, _, _, _, _, _, _, rfl⟩ := h
  obtain ⟨_, _, _, _, _, _, _, _, _, _, _, _, rfl⟩ := k
  exact ⟨_, _, _, _, _, _, _, _, _, _, _, _, rfl⟩

theorem ExpiryChanges.settle {s t : State} (h : ExpiryChanges s t) (b : State) : ExpiryChanges s (settle b t) := by
  obtain ⟨ts, es, sl, ll, rs, a, g, q, o, l, k⟩ := settle_only b t
  exact h.trans ⟨ts, es, _, _, sl, rs, ll, a, g, q, o, l, k⟩

theorem ExpiryChanges.raise {s t : State} (h : ExpiryChanges s t) (e : EventRecord) : ExpiryChanges s (t.raise e) :=
  h.trans ⟨_, _, _, _, _, _, _, _, _, _, _, _, rfl⟩

theorem abandon_only (p : Pair) (r : TagRecord) (s : State) : ∃ rs, abandon p r s = { s with responses := rs } := by
  unfold abandon
  split
  · exact ⟨_, rfl⟩
  · split <;> exact ⟨_, rfl⟩

theorem expireVerdict_only (p : Pair) (s : State) : ExpiryChanges s (expireVerdict p s) := by
  unfold expireVerdict
  split
  · exact .refl s
  · split
    · obtain ⟨rs, h⟩ := abandon_only p ‹TagRecord› s
      obtain ⟨ts, es, n, a, sl, rs', k⟩ := removeRecords_only [p] (abandon p ‹TagRecord› s)
      exact ExpiryChanges.settle (.raise (by rw [k, h]; exact ⟨_, _, _, _, _, _, _, _, _, _, _, _, rfl⟩) _) s
    · exact .refl s

theorem expireStrand_only (e : EntryIx) (s : State) : ExpiryChanges s (expireStrand e s) := by
  unfold expireStrand
  split
  · exact .refl s
  · split
    · exact ExpiryChanges.settle (.raise ⟨_, _, _, _, _, _, _, _, _, _, _, _, rfl⟩ _) s
    all_goals exact .refl s

theorem expireLock_only (k : SlotIx) (s : State) : ExpiryChanges s (expireLock k s) := by
  unfold expireLock
  split
  · exact .refl s
  · split
    · obtain ⟨ts, sl, ll, q, o, h⟩ := breakReservation_only k ‹Reservation› 0 s
      exact ExpiryChanges.settle (by rw [h]; exact ⟨_, _, _, _, _, _, _, _, _, _, _, _, rfl⟩) s
    · exact .refl s

theorem expireDrain_only (s : State) : ExpiryChanges s (expireDrain s) := by
  unfold expireDrain
  split
  · exact .refl s
  · split
    · exact .raise ⟨_, _, _, _, _, _, _, _, _, _, _, _, rfl⟩ _
    · exact .refl s

theorem beatFails_only (a : Access) (b : Nat) (timeout : Bool) (s : State) : ExpiryChanges s (beatFails a b timeout s) := by
  unfold beatFails
  simp only
  split
  · obtain ⟨ts, es, sl, rs, h⟩ := endWrite_only a (if timeout then .targetTimeout else .targetError) (s.setAccess none)
    exact .raise (by rw [h]; exact ⟨_, _, _, _, _, _, _, _, _, _, _, _, rfl⟩) _
  · split
    · obtain ⟨ts, es, sl, rs, h⟩ :=
        endRead_only a (some (if timeout then .targetTimeout else .targetError)) (s.setAccess none)
      exact .raise (by rw [h]; exact ⟨_, _, _, _, _, _, _, _, _, _, _, _, rfl⟩) _
    · obtain ⟨es, n, h⟩ := endRemoved_only a none (s.setAccess none)
      exact .raise (by rw [h]; exact ⟨_, _, _, _, _, _, _, _, _, _, _, _, rfl⟩) _

theorem expireWait_only (s : State) : ExpiryChanges s (expireWait s) := by
  unfold expireWait
  split
  · exact .refl s
  · split
    · exact .refl s
    · split
      · exact ExpiryChanges.settle (beatFails_only _ _ _ _) s
      · exact .refl s

theorem expire_only (t : Timer) (s : State) : ExpiryChanges s (expire t s) := by
  cases t with
  | verdict p => exact expireVerdict_only p s
  | strand e => exact expireStrand_only e s
  | lock k => exact expireLock_only k s
  | drain => exact expireDrain_only s
  | wait => exact expireWait_only s

theorem expireAll_only (ts : List Timer) (s : State) : ExpiryChanges s (expireAll ts s) := by
  induction ts generalizing s with
  | nil => exact .refl s
  | cons t ts ih =>
    unfold expireAll
    split
    · exact (expire_only t s).trans (ih _)
    · exact ih s

/-- An expiry that is not due changes nothing. -/
theorem expire_of_not_due (t : Timer) (s : State) (h : s.due t = false) : expire t s = s := by
  cases t <;>
    simp only [State.due] at h <;>
    simp only [expire, expireVerdict, expireStrand, expireLock, expireDrain, expireWait] <;>
    repeat' split
  all_goals simp_all

/-- The expiries in turn, whether each is due or not. -/
theorem expireAll_eq_foldl (ts : List Timer) (s : State) : expireAll ts s = ts.foldl (fun s t => expire t s) s := by
  induction ts generalizing s with
  | nil => rfl
  | cons t ts ih =>
    rw [expireAll, List.foldl_cons]
    split
    · exact ih _
    · rw [expire_of_not_due t s (by simp_all)]
      exact ih s

/-- What a tick itself counts. -/
theorem countTick_only (s : State) :
    ∃ ts es sl a ac, countTick s =
      { s with timebase := s.timebase + 1, tags := ts, entries := es, slots := sl, apply := a, access := ac } :=
  ⟨_, _, _, _, _, rfl⟩

end Sys2Proof.Machine
end

