-- ==== Sys2Proof/Tests/Slice0.lean ====
section
/-! SUPPORT. Tests of single commands on small states, with expected values from the manual's worked examples and layouts;
the ill-formed terms that `WellFormed` refuses; and for every statement with hypotheses a state and operands that meet them
together (`meets_…`). -/

namespace Sys2Proof.Tests

set_option Elab.async false

open Sys2Proof.Machine

/-! ## Small states -/

/-- A PASS, STEP region of locks at host 0x0000, select 0 from target 0, 256 bytes. -/
def memory : RegionEntry :=
  { cls := 1, lock := true, hostExp := 12, spanExp := 8, hostBase := 0, targetBase := 0, select := 0, mode := 1,
    verdictLimit := 5, lockLimit := 9, strandWindow := 0 }

/-- A CAPTURE, FIXED region at host 0x1000: the FIFO port of section 5.11, select 2 at target 0x40. -/
def fifo : RegionEntry :=
  { cls := 3, lock := false, hostExp := 12, spanExp := 2, hostBase := 0x1000, targetBase := 0x40, select := 2, mode := 0,
    verdictLimit := 0, lockLimit := 1, strandWindow := 5000 }

/-- The running part with the two regions at indices 0 and 3, and a frame in its command phase. -/
def part : State :=
  { State.reset with
    operating := .running
    image := .valid
    boot := .idle
    port := .frame Frame.begun
    regions := (State.reset.regions.set 0 memory).set 3 fifo }

/-- The pair (initiator, tag). -/
def pair (i t : Nat) : Pair := ⟨Fin.ofNat 8 i, Fin.ofNat 16 t⟩

/-- A request of initiator 1, tag 2, for beats of 4 bytes. -/
def req (speculative : Bool) (address : Word) (count : BitVec 4) (slots : List Word := []) : Request :=
  { initiator := 1, tag := 2, speculative := speculative, sizeCode := 2, count := count, address := address
    slots := slots }

/-- What a record of a request of region 0 at host 0x10 copies. -/
def atMemory : Place := placeOf memory 0 .pass .read 0x10

/-- What a record of a request of region 3 copies. -/
def atFifo : Place := placeOf fifo 3 .capture .read 0x1000

/-- A speculative WAITING record of order number 0 for one beat. -/
def waiting (kind : Kind) (place : Option Place) : TagRecord :=
  { kind := kind, place := place, size := .four, count := 1, speculative := true, verdict := .none, position := .waiting
    response := .pending, order := 0, data := [], entry := none, timer := none, mark := false }

/-- A committed one. -/
def committed (kind : Kind) (place : Option Place) : TagRecord := { waiting kind place with verdict := .committed }

/-- A capture entry of the FIFO port with beats. -/
def held (state : EntryState) (beats : List Word) : CaptureEntry :=
  { state := state, region := 3, select := 2, start := 0x40, size := .four, mode := .fixed, window := 5000
    beats := beats, allocation := 0 }

/-- A reservation of initiator 1 on the granule at 0x10. -/
def lock (state : LockState) (lockRead : Option Tag) : Reservation :=
  { initiator := 1, select := 0, granule := 0x10, region := 0, state := state, lockRead := lockRead }

/-- The open access of a pair, with beat 0 of one in flight. -/
def access (p : Pair) (kind : AccessKind) (place : Place) (entry : Option EntryIx) : Access :=
  { pair := p, live := true, kind := kind, place := place, size := .four, first := 0, count := 1, next := 1, limit := 20
    flight := some ⟨0, 20⟩, entry := entry, buffer := [] }

/-- The laws of the tables, as one test. -/
def lawful (s : State) : Bool :=
  decide (LockLaw s) && decide (AccessLaw s) && decide (NamesLaw s) && decide (WritingLaw s) && decide (RecordsBound s) &&
    decide (EntriesBound s) && decide (AccessBound s)

theorem lawful_of {s : State} (h : lawful s = true) : Lawful s := by
  simp only [lawful, Bool.and_eq_true, decide_eq_true_eq] at h
  exact ⟨h.1.1.1.1.1.1, h.1.1.1.1.1.2, h.1.1.1.1.2, h.1.1.1.2, h.1.1.2, h.1.2, h.2⟩

theorem exec_after (c : Instr) (s : State) : (∃ t, exec c s = .next t) → exec c s = .next (s.after c) := by
  rintro ⟨t, h⟩
  rw [State.after, h]

/-! ## Ill-formed commands -/

theorem test_ill_formed_request : (Instr.write (req false 0 1 (List.replicate 16 0))).wellFormed = false := by decide
theorem test_ill_formed_unknown_command : (Instr.unknownCommand 0x10).wellFormed = false := by decide
theorem test_ill_formed_body : (Instr.endOfLoading [0, 0, 0]).wellFormed = false := by decide
theorem test_well_formed_body : (Instr.endOfLoading [0x58, 0x32]).wellFormed = true := by decide

/-! ## Formats (R24, R165, R166): written out from the layouts -/

theorem test_decode_message : decodeMessage ⟨6, req true 0x1000 1⟩ = .kill (pair 1 2) := by decide +kernel
theorem test_encode_response :
    encodeResponse (.data (pair 5 2) .targetTimeout 1 [7, 8]) = ⟨0, 5, 2, 2, 2, 1, [7, 8]⟩ := by decide +kernel
theorem test_decode_set_select : decodeFrame [0x13, 0x02, 0x14, 0xFF] = some (.setSelect 2 0x14) := by decide +kernel
theorem test_decode_short_frame : decodeFrame [0x13, 0x02] = none := by decide +kernel
theorem test_decode_discard :
    decodeFrame [0x30, 0x02, 0x00, 0x02, 0x40, 0x00, 0x00, 0x00] = some (.discardStrands 2 0 2 0x40) := by decide +kernel
theorem test_decode_unknown : decodeFrame [0x7F] = some (.unknownCommand 0x7F) := by decide +kernel

/-- Region 3 of section 4.12 as its region record: class CAPTURE, FIXED, select 2, target base 0x40, span 2^2. -/
theorem test_region_record :
    packRegion 3 fifo = [0x33, 12, 2, 0x00, 0x10, 0, 0, 0x40, 0, 0, 0x20, 0x00, 0x10, 0x00, 0x88, 0x13] := by
  decide +kernel

/-! ## Translation, from section 1.2 -/

/-- Region 5 of section 1.2. -/
def folded : RegionEntry :=
  { cls := 1, lock := false, hostExp := 16, spanExp := 8, hostBase := 0x40000000, targetBase := 0x0200000, select := 1,
    mode := 1, verdictLimit := 0, lockLimit := 1, strandWindow := 0 }

theorem test_fold_translates : translate folded 0x40000184 = 0x0200084 := by decide +kernel
theorem test_fold_wraps :
    (List.range 4).map (beatAddress (placeOf folded 5 .pass .read 0x400000F8) .four) =
      [0x02000F8, 0x02000FC, 0x0200000, 0x0200004] := by decide +kernel
theorem test_split_region : splits folded (req false 0x4000FFF8 4) = true := by decide +kernel
theorem test_fold_is_valid : folded.valid = true := by decide +kernel
theorem test_lock_in_capture_is_invalid : { fifo with lock := true }.valid = false := by decide +kernel

/-! ## The image of section 10.6 -/

/-- The 12 header bytes of section 10.6. -/
def header : Vector Byte 12 := #v[0xA7, 0x3C, 0xA7, 0x3C, 1, 0, 25, 20, 32, 32, 32, 32]

theorem test_smallest_image : checkHeader header = none ∧ checkBody header [0x58, 0x32] = none := by decide +kernel
theorem test_zero_checksum : checkBody header [0, 0] = some (.corrupt 4 12 0) := by decide +kernel
theorem test_zero_drain_limit : checkHeader (header.set 7 0) = some (.corrupt 3 7 0) := by decide +kernel
theorem test_erased_flash : checkHeader (Vector.replicate 12 0xFF) = some (.absent true) := by decide +kernel

/-! ## Single commands -/

/-- Section 2.10: a speculative WRITE is answered ACK OK as it is taken. -/
theorem test_write_is_posted :
    (part.after (.write (req true 0x1000 1 [0xAABBCCDD]))).responses = [.ack (pair 1 2) .ok] := by decide +kernel

/-- Section 2.10: a misaligned read. -/
theorem test_misaligned : (part.after (.read (req false 0x1002 1))).responses = [.error (pair 1 2) .misaligned] := by
  decide +kernel

/-- Section 2.10: a speculative read of an unmapped address leaves an error record, DONE and SENT. -/
theorem test_error_record :
    ((part.after (.read (req true 0x40000000 1))).tag (pair 1 2)).map (fun r => (r.position, r.response, r.place)) =
      some (.done, .sent, none) := by decide +kernel

/-- R97's example: two compatible strands [Q1, Q2] and [Q3, Q4, Q5] serve a 4-beat read with Q1 to Q4. -/
theorem test_two_strands_serve :
    takenBeats (State.consumption
      ((part.setEntry 11 (some (held (.stranded 30 none) [1, 2]))).setEntry 20
        (some (held (.stranded 33 none) [3, 4, 5]))) atFifo .four 4) = [1, 2, 3, 4] := by decide +kernel

/-- Section 9.7: a refusal sets the overflow flag and asserts ALERT with every kind disabled. -/
theorem test_refusal_alerts :
    ({ part with events := List.replicate 16 { kind := .unmapped }, alertMask := 0 }.raise { kind := .tagReuse }).alert =
      true := by decide +kernel

/-- Section 7.9: another initiator's read of the granule is turned away. -/
theorem test_granule_is_closed :
    ((part.setSlot 0 (some (lock (.reserved 9) none))).after (.read { req false 0x14 1 with initiator := 5 })).responses =
      [.retry (pair 5 2) .reserved] := by decide +kernel

/-! ## Hypotheses of the statements, met together -/

theorem meets_StepTakesTheFrontCommand :
    { part with pending := [.grant] }.pending = .grant :: [] ∧ part.pending = [] ∧ part.dataIn = [] ∧
      { part with dataIn := [0x01] }.dataIn = 0x01 :: [] := ⟨rfl, rfl, rfl, rfl⟩

theorem meets_SettingsChangeByTheirOwnRows :
    (part.after .hold).operating ≠ part.operating ∧ (part.after (.setSelect 0 9)).waitLimits ≠ part.waitLimits ∧
      (part.after .frameEnd).port ≠ part.port := by decide +kernel

theorem settled_part : Settled part := by decide +kernel
theorem lawful_part : Lawful part := lawful_of (by decide +kernel)

theorem timerLaw_part : TimerLaw part := by
  refine ⟨by decide +kernel, by decide, by decide, by decide, fun _ h => (by cases h), fun T => ?_⟩
  cases T with
  | verdict p => exact (by decide +kernel : ∀ i t, part.due (.verdict ⟨i, t⟩) = false) p.initiator p.tag
  | strand e => exact (by decide +kernel : ∀ e, part.due (.strand e) = false) e
  | lock k => exact (by decide +kernel : ∀ k, part.due (.lock k) = false) k
  | drain => decide
  | wait => decide

theorem meets_StepsStaySettled :
    Settled { part with pending := [.hold] } ∧
      step { part with pending := [.hold] } = .next ({ part with pending := [] }.after .hold) ∧
      TimerLaw part ∧ step part = .next part :=
  ⟨settled_part, rfl, timerLaw_part, rfl⟩

/-- The part with every entry a strand at another place, but those below `n`, which are free. -/
def full (n : Nat) : State :=
  { part with
    entries := Vector.ofFn fun e : EntryIx =>
      if e.val < n then none else some { held (.stranded e.val (some 0)) [1] with start := 0x44 } }

theorem meets_TheLatchReportsExhaustion :
    (full 0).latch = false ∧ ((full 0).after (.read (req false 0x1000 1))).latch = true ∧
      ((full 0).after (.read (req false 0x1000 1))).stalled (pair 1 2) = true ∧
      (let s := { full 3 with latch := true }
       s.freeCount = 3 ∧ (s.after (.strandTimerExpiry 3)).freeCount = 4 ∧
        (s.after (.strandTimerExpiry 3)).latch = false) := by decide +kernel

theorem meets_RequestsTurnedAway :
    Settled { part with operating := .held } ∧ { part with operating := .held }.operating ≠ .running ∧
      Settled (part.setTag (pair 1 2) (some (waiting .read (some atFifo)))) ∧
      ((part.setTag (pair 1 2) (some (waiting .read (some atFifo)))).tag (req false 0 1).pair).isSome = true := by
  decide +kernel

theorem meets_MalformedRequestsAreBad :
    Settled part ∧ part.operating = .running ∧ part.tag (req false 0 0).pair = none ∧ IllFormed .read (req false 0 0) ∧
      IllFormed .write (req false 0 9) ∧ IllFormed .lockRead (req false 0 2) ∧ IllFormed .unlock (req false 0 0 [1]) := by
  and_intros <;> decide +kernel

theorem meets_TheLowestWindowMatches :
    matchRegion part.regions 0x0FFF = some (0, .pass) ∧ matchRegion part.regions 0x1000 = some (3, .capture) ∧
      matchRegion part.regions 0x2000 = none ∧
      matchRegion (part.regions.set 3 { fifo with cls := 2 }) 0x1FFF = some (3, .hold) ∧
      matchRegion (part.regions.set 3 { fifo with cls := 4 }) 0x1000 = none := by decide +kernel

theorem meets_AddressErrorsInOrder :
    Settled part ∧ ReachesAddress .read (req true 0x2000 1) part ∧ matchRegion part.regions 0x2000 = none ∧
      ReachesAddress .write (req false 0x2 1 [7]) part ∧ (0x2 : Word).toNat % (beatSizeOf 2).bytes ≠ 0 ∧
      ReachesAddress .read (req false 0xFFC 2) part ∧ matchRegion part.regions 0xFFC = some (0, .pass) ∧
      (0xFFC : Word).toNat % (beatSizeOf 2).bytes = 0 ∧ LeavesWindow part.regions[(0 : RegionIx)] (req false 0xFFC 2) := by
  and_intros <;> decide +kernel

/-- The part with region 0 draining, in use by a record. -/
def draining : State :=
  { part.setTag (pair 4 4) (some (waiting .write (some atMemory))) with apply := .draining 0 0 }

/-- The part with a reservation of initiator 5 on the granule at 0x10. -/
def taken : State := part.setSlot 0 (some { lock (.reserved 9) none with initiator := 5 })

theorem meets_ClosedRegionsAndGranulesRetry :
    Settled draining ∧ ReachesAddress .write (req false 0x10 1 [7]) draining ∧ draining.drains 0 = true ∧
      matchRegion draining.regions 0x10 = some (0, .pass) ∧ ¬LeavesWindow draining.regions[(0 : RegionIx)] (req false 0x10 1) ∧
      Settled taken ∧ ReachesLocks .read (req false 0x14 1) taken 0 .pass ∧
      Touches taken 1 memory.select (footprint (copiedPlace memory 0 .pass none 0x14) .four 1) := by
  and_intros <;> decide +kernel

theorem meets_ReadsAreTaken :
    Settled part ∧ ReachesLocks .read (req true 0x1000 4) part 3 .capture ∧
      ¬Touches part 1 fifo.select (footprint (copiedPlace fifo 3 .capture none 0x1000) .four 4) ∧
      part.regions[(3 : RegionIx)].valid = true ∧ part.regions[(0 : RegionIx)].valid = true ∧
      0x43 ∈ footprint (copiedPlace fifo 3 .capture none 0x1000) .four 4 ∧
      0x44 ∉ footprint (copiedPlace fifo 3 .capture none 0x1000) .four 4 ∧
      ReachesLocks .read (req true 0x1F8 4) part 0 .pass ∧
      0xFF ∈ footprint (copiedPlace memory 0 .pass none 0x1F8) .four 4 ∧
      0x07 ∈ footprint (copiedPlace memory 0 .pass none 0x1F8) .four 4 ∧
      0x08 ∉ footprint (copiedPlace memory 0 .pass none 0x1F8) .four 4 := by and_intros <;> decide +kernel

theorem meets_WritesArePosted :
    Settled part ∧ ReachesLocks .write (req true 0x10 1 [7]) part 0 .pass ∧
      ¬Touches part 1 memory.select (footprint (copiedPlace memory 0 .pass none 0x10) .four 1) := by decide +kernel

/-- The part with all four slots taken, by initiators 2 to 5. -/
def locked : State :=
  { part with slots := Vector.ofFn fun k : SlotIx => some { lock (.reserved 9) none with
      initiator := Fin.ofNat 8 (k.val + 2), granule := BitVec.ofNat 28 (8 * k.val + 8) } }

theorem meets_LockReadsReserve :
    Settled part ∧ ReachesLocks .lockRead (req true 0x10 1) part 0 .pass ∧ part.regions[(0 : RegionIx)].lock = true ∧
      ReachesLocks .lockRead (req true 0x1000 1) part 3 .capture ∧ part.regions[(3 : RegionIx)].lock = false ∧
      Settled locked ∧ ReachesLocks .lockRead (req true 0x10 1) locked 0 .pass ∧
      ReachesLocks .lockRead (req true 0x30 1) locked 0 .pass ∧
      (∃ k : SlotIx, ∃ v ∈ locked.slots[k], v.initiator ≠ 1 ∧ v.select = 0 ∧ v.granule = 0x10) ∧
      ¬(∃ k : SlotIx, ∃ v ∈ locked.slots[k], v.initiator ≠ 1 ∧ v.select = 0 ∧ v.granule = 0x30) ∧
      (∀ k : SlotIx, locked.slots[k] ≠ none) ∧ part.slots[(0 : SlotIx)] = none := by and_intros <;> decide +kernel

/-- The part with a RESERVED reservation of initiator 1 in slot 0. -/
def reserved : State := part.setSlot 0 (some (lock (.reserved 9) none))

/-- The part with a LOCK-READ (1, 3), a LOCK-WRITE (1, 4) and their WRITING reservation. -/
def writing (w : TagRecord) : State :=
  ((part.setTag (pair 1 3) (some { waiting .lockRead (some atMemory) with position := .done, response := .sent })).setTag
    (pair 1 4) (some w)).setSlot 0 (some (lock (.writing 4) (some 3)))

/-- A LOCK-WRITE that is WAITING. -/
def lockWrite : TagRecord := { waiting .lockWrite (some atMemory) with order := 1, data := [7] }

theorem meets_LockWritesNeedTheirReservation :
    Settled part ∧ LockLaw part ∧ ReachesLocks .lockWrite (req false 0x10 1 [7]) part 0 .pass ∧
      Settled reserved ∧ LockLaw reserved ∧ ReachesLocks .lockWrite (req false 0x14 1 [7]) reserved 0 .pass ∧
      ReachesLocks .lockWrite (req false 0x18 1 [7]) reserved 0 .pass ∧
      (0x10 = 0x14 / 8 * 8 ∧ ¬(0x10 = 0x18 / 8 * 8)) ∧
      Settled (writing lockWrite) ∧ LockLaw (writing lockWrite) ∧
      ReachesLocks .lockWrite (req false 0x10 1 [7]) (writing lockWrite) 0 .pass := by and_intros <;> decide +kernel

theorem meets_UnlocksWaitOrAct :
    Settled part ∧ Lawful part ∧ ReachesAddress .unlock (req true 0 0) part ∧ ReachesAddress .unlock (req false 0 0) part ∧
      (¬∃ t : Tag, ∃ r ∈ part.tag ⟨1, t⟩, r.order < part.acceptance[(1 : Initiator)] ∧ r.ordered = true ∧
        r.position = .waiting) ∧
      Settled reserved ∧ Lawful reserved ∧ ReachesAddress .unlock (req false 0 0) reserved :=
  ⟨settled_part, lawful_part, by decide +kernel, by decide +kernel, by decide +kernel, by decide +kernel,
    lawful_of (by decide +kernel), by decide +kernel⟩

theorem meets_UnlocksWaitOrAct_writing :
    Settled (writing { lockWrite with position := .issued, verdict := .committed }) ∧
      Lawful (writing { lockWrite with position := .issued, verdict := .committed }) ∧
      ReachesAddress .unlock (req false 0 0) (writing { lockWrite with position := .issued, verdict := .committed }) :=
  ⟨by decide +kernel, lawful_of (by decide +kernel), by decide +kernel⟩

theorem meets_VerdictsThatChangeNothing :
    part.tag (pair 1 2) = none ∧
      (part.setTag (pair 1 2) (some (committed .write (some atMemory)))).tag (pair 1 2) =
        some (committed .write (some atMemory)) ∧
      (committed .write (some atMemory)).verdict = .committed := by decide +kernel

/-- A CAPTURE read that has been answered. -/
def answeredRead : TagRecord :=
  { waiting .read (some atFifo) with position := .done, response := .sent, entry := some 6 }

/-- The part with the read answered and its entry CAPTURED. -/
def captured : State :=
  (part.setTag (pair 1 2) (some answeredRead)).setEntry 6 (some (held (.captured (pair 1 2)) [1, 2]))

theorem meets_CommitSetsOrReleases :
    LockLaw captured ∧ captured.tag (pair 1 2) = some answeredRead ∧ answeredRead.verdict = .none ∧
      answeredRead.position = .done ∧ answeredRead.response = .sent ∧
      (∀ k : SlotIx, ∀ v ∈ captured.slots[k], ¬(v.initiator = 1 ∧ v.lockRead = some 2)) ∧
      LockLaw (writing lockWrite) ∧
      (writing lockWrite).tag (pair 1 3) =
        some { waiting .lockRead (some atMemory) with position := .done, response := .sent } ∧
      (writing lockWrite).slots[(0 : SlotIx)] = some (lock (.writing 4) (some 3)) := by decide +kernel

theorem meets_SettingsChangeByTheirOwnRows_strands :
    (captured.after (.kill (pair 1 2))).strandCounter ≠ captured.strandCounter := by decide +kernel

/-- The part with a speculative write WAITING. -/
def heldWrite : State := part.setTag (pair 1 2) (some (waiting .write (some atMemory)))

/-- The part with an error record, DONE and SENT without an entry. -/
def refusedRead : State :=
  part.setTag (pair 1 2) (some { waiting .read none with position := .done, response := .sent })

theorem meets_KillLeavesNothingOrAStrand :
    Lawful heldWrite ∧ heldWrite.tag (pair 1 2) = some (waiting .write (some atMemory)) ∧ Lawful refusedRead ∧
      (∀ k : SlotIx, ∀ v ∈ refusedRead.slots[k], ¬(v.initiator = 1 ∧ v.lockRead = some 2)) ∧ Lawful captured ∧
      captured.tag (pair 1 2) = some answeredRead ∧ captured.entries[(6 : EntryIx)] = some (held (.captured (pair 1 2)) [1, 2]) ∧
      (held (.captured (pair 1 2)) [1, 2]).isCaptured = true :=
  ⟨lawful_of (by decide +kernel), by decide +kernel, lawful_of (by decide +kernel), by decide +kernel,
    lawful_of (by decide +kernel), by decide +kernel, by decide +kernel, by decide⟩

/-- R139 and R140: a LOCK-READ killed before its LOCK-WRITE is issued ends it without write. -/
theorem test_kill_ends_the_lock_write :
    ((writing lockWrite).after (.kill (pair 1 3))).responses = [.ack (pair 1 4) .lockLost] ∧
      ((writing lockWrite).after (.kill (pair 1 3))).slots[(0 : SlotIx)] = none := by decide +kernel

/-- An ISSUED CAPTURE read with its FILLING entry. -/
def issuedRead (e : Option EntryIx) : TagRecord :=
  { waiting .read (some (if e = none then atMemory else atFifo)) with position := .issued, entry := e }

/-- The part with a guarded read on the target bus, its entry holding beats. -/
def filling (beats : List Word) (flight : Option Flight) : State :=
  ((part.setTag (pair 1 2) (some (issuedRead (some 6)))).setEntry 6
    (some (held (.filling (some (pair 1 2)) 1) beats))).setAccess
      (some { access (pair 1 2) .read atFifo (some 6) with flight := flight })

/-- The part with a PASS read on the target bus. -/
def passing (flight : Option Flight) : State :=
  (part.setTag (pair 1 2) (some (issuedRead none))).setAccess
    (some { access (pair 1 2) .read atMemory none with flight := flight })

/-- The part with a LOCK-READ on the target bus and its RESERVED reservation. -/
def lockReading (flight : Option Flight) : State :=
  ((part.setTag (pair 1 3) (some { waiting .lockRead (some atMemory) with position := .issued })).setSlot 0
    (some (lock (.reserved 9) (some 3)))).setAccess (some { access (pair 1 3) .read atMemory none with flight := flight })

theorem meets_KillEndsAnOpenRead :
    Lawful (filling [1] (some ⟨0, 20⟩)) ∧ Lawful (filling [1] none) ∧ Lawful (filling [] none) ∧
      Lawful (passing (some ⟨0, 20⟩)) ∧ Lawful (passing none) ∧ Lawful (lockReading (some ⟨0, 20⟩)) ∧
      Lawful (lockReading none) ∧ (lockReading none).slots[(0 : SlotIx)] = some (lock (.reserved 9) (some 3)) ∧
      (filling [1] none).tag (pair 1 2) = some (issuedRead (some 6)) ∧ (issuedRead (some 6)).verdict = .none ∧
      (filling [1] none).entries[(6 : EntryIx)] = some (held (.filling (some (pair 1 2)) 1) [1]) :=
  ⟨lawful_of (by decide +kernel), lawful_of (by decide +kernel), lawful_of (by decide +kernel),
    lawful_of (by decide +kernel), lawful_of (by decide +kernel), lawful_of (by decide +kernel),
    lawful_of (by decide +kernel), by decide +kernel, by decide +kernel, by decide, by decide +kernel⟩

/-- The part with a LOCK-READ (1, 3) and its RESERVED reservation. -/
def lockedRead : State :=
  (part.setTag (pair 1 3) (some (waiting .lockRead (some atMemory)))).setSlot 0 (some (lock (.reserved 9) (some 3)))

theorem meets_KillOfALockedHalf :
    Lawful lockedRead ∧ Lawful (writing lockWrite) ∧
      Lawful (writing { lockWrite with position := .issued, verdict := .committed }) ∧
      lockedRead.slots[(0 : SlotIx)] = some (lock (.reserved 9) (some 3)) ∧
      lockedRead.tag (pair 1 3) = some (waiting .lockRead (some atMemory)) ∧
      (writing lockWrite).tag (pair 1 4) = some lockWrite ∧
      (writing lockWrite).slots[(0 : SlotIx)] = some (lock (.writing 4) (some 3)) :=
  ⟨lawful_of (by decide +kernel), lawful_of (by decide +kernel), lawful_of (by decide +kernel), by decide +kernel,
    by decide +kernel, by decide +kernel, by decide +kernel⟩

/-- A committed write (1, 5) beside the answered read (1, 2), younger than it. -/
def twoRecords : State := captured.setTag (pair 1 5) (some { committed .write (some atMemory) with order := 1 })

/-- Two answered CAPTURE reads, (1, 5) in entry 2 and (1, 2) in entry 6, which was allocated first. -/
def twoCaptured : State :=
  (captured.setTag (pair 1 5) (some { answeredRead with entry := some 2, order := 1 })).setEntry 2
    (some { held (.captured (pair 1 5)) [3] with allocation := 1 })

theorem meets_FlushRemovesTheYounger :
    Lawful twoRecords ∧ Settled twoRecords ∧ twoRecords.tag (pair 1 2) = some answeredRead ∧
      twoRecords.tag (pair 1 5) = some { committed .write (some atMemory) with order := 1 } ∧
      Lawful (writing lockWrite) ∧ (writing lockWrite).tag (pair 1 4) = some lockWrite ∧
      (writing lockWrite).slots[(0 : SlotIx)] = some (lock (.writing 4) (some 3)) ∧
      Lawful twoCaptured ∧ twoCaptured.apply = .idle ∧ twoCaptured.tag (pair 1 2) = some answeredRead ∧
      twoCaptured.entries[(2 : EntryIx)] = some { held (.captured (pair 1 5)) [3] with allocation := 1 } ∧
      twoCaptured.entries[(6 : EntryIx)] = some (held (.captured (pair 1 2)) [1, 2]) :=
  ⟨lawful_of (by decide +kernel), by decide +kernel, by decide +kernel, by decide +kernel, lawful_of (by decide +kernel),
    by decide +kernel, by decide +kernel, lawful_of (by decide +kernel), by decide, by decide +kernel, by decide +kernel,
    by decide +kernel⟩

/-- The FIFO read on the target bus between two beats, its entry holding beats, beside an answered CAPTURE read. -/
def fillingBeside (beats : List Word) : State :=
  ((filling beats none).setTag (pair 1 5) (some { answeredRead with entry := some 9 })).setEntry 9
    (some { held (.captured (pair 1 5)) [3] with allocation := 7 })

theorem meets_FlushRemovesTheYounger_open :
    Lawful (filling [1] (some ⟨0, 20⟩)) ∧ Lawful (fillingBeside [1]) ∧ Lawful (fillingBeside []) ∧
      Lawful (passing none) ∧ Lawful (lockReading (some ⟨0, 20⟩)) ∧ Lawful lockedRead ∧
      lockedRead.tag (pair 1 3) = some (waiting .lockRead (some atMemory)) ∧ (fillingBeside [1]).apply = .idle ∧
      (fillingBeside [1]).tag (pair 1 2) = some (issuedRead (some 6)) ∧
      EndsWithoutWrite (writing lockWrite) (fun q => decide (q = pair 1 3)) (pair 1 4) :=
  ⟨lawful_of (by decide +kernel), lawful_of (by decide +kernel), lawful_of (by decide +kernel),
    lawful_of (by decide +kernel), lawful_of (by decide +kernel), lawful_of (by decide +kernel), by decide +kernel,
    by decide, by decide +kernel, by decide +kernel⟩

/-- R79, R92 and R156: a FLUSH with no beat in flight ends the open read, and its entry becomes a strand after those of the
CAPTURED entries; a host-link reset does the same. -/
theorem test_open_read_strands_last :
    (∀ c ∈ [Instr.flush (pair 1 2), .hostLinkReset],
      ((fillingBeside [1]).after c).access = none ∧
        (((fillingBeside [1]).after c).entries[(9 : EntryIx)]).map (·.state) = some (.stranded 0 (some 5000)) ∧
        (((fillingBeside [1]).after c).entries[(6 : EntryIx)]).map (·.state) = some (.stranded 1 (some 5000)) ∧
        ((fillingBeside []).after c).entries[(6 : EntryIx)] = none) := by decide +kernel

/-- R79, R139 and R156: with a beat in flight a FLUSH marks the open read removed and unbinds its entry, and a removed
LOCK-READ's reservation is freed. -/
theorem test_flush_of_open_reads :
    ((filling [1] (some ⟨0, 20⟩)).after (.flush (pair 1 2))).access.map (·.live) = some false ∧
      ((filling [1] (some ⟨0, 20⟩)).after (.flush (pair 1 2))).entries[(6 : EntryIx)] = some (held (.filling none 1) [1]) ∧
      ((lockReading (some ⟨0, 20⟩)).after (.flush (pair 1 3))).slots[(0 : SlotIx)] = none := by decide +kernel

/-- R92: strands formed in one event stand in the order of their allocation. -/
theorem test_flush_numbers_by_allocation :
    ((twoCaptured.after (.flush (pair 1 2))).entries[(6 : EntryIx)]).map (·.state) = some (.stranded 0 (some 5000)) ∧
      ((twoCaptured.after (.flush (pair 1 2))).entries[(2 : EntryIx)]).map (·.state) = some (.stranded 1 (some 5000)) ∧
      ((twoCaptured.after .hostLinkReset).entries[(2 : EntryIx)]).map (·.state) = some (.stranded 1 (some 5000)) := by
  decide +kernel

theorem meets_CommittedWritesStay :
    Lawful twoRecords ∧ twoRecords.tag (pair 1 5) = some { committed .write (some atMemory) with order := 1 } ∧
      exec (.flush (pair 1 2)) twoRecords = .next (twoRecords.after (.flush (pair 1 2))) :=
  ⟨lawful_of (by decide +kernel), by decide +kernel, exec_after _ _ ⟨_, rfl⟩⟩

theorem meets_ThrowingAwayLosesNoBeat :
    Lawful captured ∧ captured.apply = .idle ∧
      exec (.kill (pair 1 2)) captured = .next (captured.after (.kill (pair 1 2))) :=
  ⟨lawful_of (by decide +kernel), by decide, exec_after _ _ ⟨_, rfl⟩⟩

/-- The part with a reservation whose lock timer has one tick left, and a captured read whose verdict timer has two. -/
def ticking : State :=
  ({ captured with timebase := 0xFFFFFFFF }.setTag (pair 1 2) (some { answeredRead with timer := some 2 })).setSlot 0
    (some { lock (.reserved 1) none with initiator := 5 })

/-- R187 and R188: the counter wraps, and an expiry is taken at its tick. -/
theorem test_expiry_is_taken_at_its_tick :
    (ticking.after .timebaseTick).slots[(0 : SlotIx)] = none ∧ (ticking.after .timebaseTick).timebase = 0 ∧
      (ticking.after .timebaseTick).lockLost[(5 : Initiator)] = true ∧
      ((ticking.after .timebaseTick).tag (pair 1 2)).map (·.timer) = some (some 1) ∧
      ((ticking.after .timebaseTick).after .timebaseTick).tag (pair 1 2) = none := by
  and_intros <;> decide +kernel

theorem meets_VerdictTimersAbandon :
    Lawful (part.setTag (pair 1 2) (some { waiting .read (some atMemory) with timer := some 0 })) ∧
      Lawful (part.setTag (pair 1 2) (some { waiting .write (some atMemory) with timer := some 0, response := .sent })) ∧
      Lawful (writing { lockWrite with timer := some 0 }) ∧ lockWrite.response = .pending ∧
      (writing { lockWrite with timer := some 0 }).slots[(0 : SlotIx)] = some (lock (.writing 4) (some 3)) ∧
      Lawful (captured.setTag (pair 1 2) (some { answeredRead with timer := some 0 })) ∧ answeredRead.response = .sent ∧
      Lawful ((passing none).setTag (pair 1 2) (some { issuedRead none with timer := some 0 })) ∧
      (issuedRead none).response = .pending :=
  ⟨lawful_of (by decide +kernel), lawful_of (by decide +kernel), lawful_of (by decide +kernel), by decide, by decide +kernel,
    lawful_of (by decide +kernel), by decide, lawful_of (by decide +kernel), by decide⟩

theorem meets_StrandTimersExpire :
    Settled (full 3) ∧ (full 3).entries[(3 : EntryIx)] = some { held (.stranded 3 (some 0)) [1] with start := 0x44 } := by
  decide +kernel

theorem meets_ReservationsAreBroken :
    Lawful (part.setSlot 0 (some (lock (.reserved 0) none))) ∧ Lawful lockedRead ∧ Lawful (writing lockWrite) ∧
      lockedRead.listens = true ∧ lockedRead.operating ≠ .loading ∧ (1 : Byte).toNat = (1 : Initiator).val ∧
      8 ≤ (8 : Byte).toNat ∧ (∀ k : SlotIx, ∀ v ∈ lockedRead.slots[k], v.initiator.val ≠ (7 : Byte).toNat) :=
  ⟨lawful_of (by decide +kernel), lawful_of (by decide +kernel), lawful_of (by decide +kernel), by decide +kernel,
    by decide +kernel, by decide, by decide, by decide +kernel⟩

/-- The part with region 3 draining and one strand of it. -/
def drained : State :=
  { part.setEntry 6 (some (held (.stranded 0 none) [1, 2])) with apply := .draining 3 0 }

theorem meets_DrainsEnd :
    drained.apply = .draining 3 0 ∧ drained.useCount 3 = 0 ∧ drained.events.length ≤ 14 := by decide +kernel

theorem meets_EventsThatDoNotArise :
    (∀ r ∈ part.tag (pair 1 2), r.timer ≠ some 0) ∧ (∀ k : SlotIx, ∀ r ∈ part.slots[k], r.state ≠ .reserved 0) ∧
      part.apply = .idle ∧ part.access = none ∧ (passing (some ⟨0, 20⟩)).access.any (·.flight.isSome) = true := by
  decide +kernel

/-- The part with a committed write of initiator 1 and a speculative FIFO read of initiator 5, and strands. -/
def eligible (strands : List CaptureEntry) (verdict : Verdict) : State :=
  let s := ((part.setTag (pair 1 2) (some { committed .write (some atMemory) with data := [7] })).setTag (pair 5 1)
    (some { waiting .read (some atFifo) with verdict := verdict }))
  { s with
    pointer := 3
    entries := Vector.ofFn fun e : EntryIx => strands[e.val]? }

theorem meets_GrantsAreInTurn :
    (eligible [] .none).access = none ∧ (eligible [] .none).eligible (pair 5 1) = true ∧
      (eligible [] .none).eligible (pair 1 2) = true ∧ (∀ i t, part.eligible ⟨i, t⟩ = false) ∧
      (passing none).access.isSome = true ∧ (eligible [] .none).effectiveFree atFifo .four 1 = 32 ∧
      (full 0).effectiveFree atFifo .four 1 = 0 := by decide +kernel

/-- R69: of two compatible strands of one and of three beats a read of two beats empties the older alone. -/
theorem test_effective_free_counts_emptied_strands :
    (eligible [held (.stranded 33 none) [3, 4, 5], held (.stranded 30 none) [1]] .none).effectiveFree atFifo .four 2 = 31 := by
  decide +kernel

/-- The FIFO read asks for two beats, and a strand holds the first. -/
def mixed : State :=
  (eligible [held (.stranded 30 none) [1]] .none).setTag (pair 5 1) (some { waiting .read (some atFifo) with count := 2 })

theorem meets_GrantsOpenTheAccess :
    (eligible [] .none).firstInTurn (eligible [] .none).eligible = some (pair 5 1) ∧
      IsGuarded (waiting .read (some atFifo)) atFifo ∧ ¬IsGuarded (committed .write (some atMemory)) atMemory ∧
      (eligible [] .none).strandsUnder atFifo .four 1 = [] ∧ (eligible [] .none).entries[(0 : EntryIx)] = none ∧
      ({ eligible [] .none with pointer := 0 }.firstInTurn { eligible [] .none with pointer := 0 }.eligible =
        some (pair 1 2)) ∧
      mixed.access = none ∧ mixed.firstInTurn mixed.eligible = some (pair 5 1) ∧
      NoConflict mixed { waiting .read (some atFifo) with count := 2 } atFifo ∧
      takenBeats (mixed.consumption atFifo .four 2) = [1] ∧
      ((mixed.consumption atFifo .four 2).foldl (fun w x => consume x w) mixed).entries[(0 : EntryIx)] = none := by
  and_intros <;> decide +kernel

/-- A strand of the FIFO port whose beats are of another size. -/
def otherSize : CaptureEntry := { held (.stranded 4 none) [1] with size := .two }

theorem meets_MismatchesAreRefused :
    Lawful (eligible [otherSize] .none) ∧
      (eligible [otherSize] .none).firstInTurn (eligible [otherSize] .none).eligible = some (pair 5 1) ∧
      (eligible [otherSize] .none).conflicts atFifo .four 1 ≠ [] :=
  ⟨lawful_of (by decide +kernel), by decide +kernel, by decide +kernel⟩

/-- Two strands of the FIFO port, the younger in the lower entry. -/
def twoStrands : List CaptureEntry := [held (.stranded 33 none) [3, 4, 5], held (.stranded 30 none) [1, 2]]

theorem meets_StrandsAreConsumedInOrder :
    ((eligible twoStrands .none).compatible atFifo .four 4).map (·.1) = [1, 0] ∧
      ((eligible twoStrands .none).consumption atFifo .four 4).map (fun x => (x.entry, x.beats)) =
        [(1, [1, 2]), (0, [3, 4])] ∧
      0x43 ∈ (eligible twoStrands .none).heldRange (held (.stranded 30 none) [1, 2]) ∧
      0x44 ∉ (eligible twoStrands .none).heldRange (held (.stranded 30 none) [1, 2]) := by decide +kernel

theorem meets_StrandsServeWholly :
    Lawful (eligible twoStrands .none) ∧ Lawful (eligible twoStrands .committed) ∧
      (eligible twoStrands .none).firstInTurn (eligible twoStrands .none).eligible = some (pair 5 1) ∧
      (eligible twoStrands .committed).firstInTurn (eligible twoStrands .committed).eligible = some (pair 5 1) ∧
      NoConflict (eligible twoStrands .none) (waiting .read (some atFifo)) atFifo ∧
      1 ≤ (takenBeats ((eligible twoStrands .none).consumption atFifo .four 1)).length :=
  ⟨lawful_of (by decide +kernel), lawful_of (by decide +kernel), by decide +kernel, by decide +kernel, by decide +kernel,
    by decide +kernel⟩

theorem meets_TheReserveStands :
    exec .grant (eligible twoStrands .none) = .next ((eligible twoStrands .none).after .grant) ∧
      (eligible twoStrands .none).firstInTurn (eligible twoStrands .none).eligible = some (pair 5 1) ∧
      IsGuarded (waiting .read (some atFifo)) atFifo ∧ NoConflict (eligible twoStrands .none) (waiting .read (some atFifo)) atFifo :=
  ⟨exec_after _ _ ⟨_, rfl⟩, by decide +kernel, by decide, by decide +kernel⟩

theorem meets_BeatsAreIssued :
    part.access = none ∧
    (passing none).access = some { access (pair 1 2) .read atMemory none with flight := none } := by decide +kernel

theorem meets_PassBeatsAreDelivered :
    AccessLaw (passing (some ⟨0, 20⟩)) ∧ Settled (passing (some ⟨0, 20⟩)) ∧
      (passing (some ⟨0, 20⟩)).tag (pair 1 2) = some (issuedRead none) := by decide +kernel

theorem meets_GuardedBeatsFillTheEntry :
    Lawful (filling [] (some ⟨0, 20⟩)) ∧ (filling [] (some ⟨0, 20⟩)).tag (pair 1 2) = some (issuedRead (some 6)) ∧
      (filling [] (some ⟨0, 20⟩)).entries[(6 : EntryIx)] = some (held (.filling (some (pair 1 2)) 1) []) :=
  ⟨lawful_of (by decide +kernel), by decide +kernel, by decide +kernel⟩

/-- The part with a write on the target bus. -/
def performing : State :=
  (part.setTag (pair 1 2) (some { committed .write (some atMemory) with position := .issued, data := [7] })).setAccess
    (some (access (pair 1 2) .write atMemory none))

/-- The part with a LOCK-WRITE on the target bus. -/
def lockPerforming : State :=
  (writing { lockWrite with position := .issued, verdict := .committed }).setAccess
    (some (access (pair 1 4) .write atMemory none))

theorem meets_WrittenBeatsRelease :
    Lawful performing ∧ Lawful lockPerforming ∧ (access (pair 1 4) .write atMemory none).count ≤ 0 + 1 ∧
      lockPerforming.slots[(0 : SlotIx)] = some (lock (.writing 4) (some 3)) :=
  ⟨lawful_of (by decide +kernel), lawful_of (by decide +kernel), by decide, by decide +kernel⟩

theorem meets_FailedBeatsEndTheAccess :
    Lawful performing ∧ Lawful lockPerforming ∧ Lawful (passing (some ⟨0, 0⟩)) ∧ Lawful (filling [] (some ⟨0, 0⟩)) ∧
      Lawful (filling [1] (some ⟨0, 0⟩)) :=
  ⟨lawful_of (by decide +kernel), lawful_of (by decide +kernel), lawful_of (by decide +kernel),
    lawful_of (by decide +kernel), lawful_of (by decide +kernel)⟩

/-- The part with an access whose record has been removed. -/
def removed (beats : List Word) (e : Option EntryIx) : State :=
  (part.setEntry 6 (some (held (.filling none 1) beats))).setAccess
    (some { access (pair 1 2) .read atFifo e with live := false })

theorem meets_RemovedReadsStrand :
    (removed [] (some 6)).access = some { access (pair 1 2) .read atFifo (some 6) with live := false } ∧
      (removed [] (some 6)).entries[(6 : EntryIx)] = some (held (.filling none 1) []) ∧
      (removed [1] (some 6)).entries[(6 : EntryIx)] = some (held (.filling none 1) [1]) ∧
      (removed [] none).access = some { access (pair 1 2) .read atFifo none with live := false } ∧
      ({ access (pair 1 2) .read atFifo (some 6) with flight := some ⟨0, 0⟩ } : Access).flight.map (·.timer) = some 0 := by
  decide +kernel

/-- The part with a ready UNLOCK of initiator 1 and a reservation of its. -/
def unlocking (slot : Option Reservation) : State :=
  (part.setTag (pair 1 2) (some (committed .unlock none))).setSlot 0 slot

theorem meets_UnlocksArePerformed :
    Lawful (unlocking none) ∧ (unlocking none).readyUnlock 1 = some (pair 1 2) ∧
      Lawful (unlocking (some (lock (.reserved 9) none))) ∧
      (unlocking (some (lock (.reserved 9) none))).readyUnlock 1 = some (pair 1 2) ∧
      (let s := (writing { lockWrite with position := .issued, verdict := .committed }).setTag (pair 1 2)
        (some (committed .unlock none))
       Lawful s ∧ s.readyUnlock 1 = some (pair 1 2)) :=
  ⟨lawful_of (by decide +kernel), by decide +kernel, lawful_of (by decide +kernel), by decide +kernel,
    lawful_of (by decide +kernel), by decide +kernel⟩

/-- The part between two beats of its access, the next being beat 0. -/
def betweenBeats (s : State) : State := { s with access := s.access.map fun a => { a with flight := none, next := 0 } }

theorem meets_SettledEventsOnlyMoveTheLatch :
    Lawful (unlocking none) ∧ (unlocking none).readyUnlock 1 = some (pair 1 2) ∧
      (unlocking none).readyUnlock 0 = none ∧ Lawful (unlocking (some (lock (.reserved 9) none))) ∧
      (∀ i : Initiator, drained.readyUnlock i = none) ∧ drained.apply = .draining 3 0 ∧ drained.useCount 3 = 0 ∧
      Settled part ∧ (∀ i t, part.stalled ⟨i, t⟩ = false) ∧
      (let u := (full 0).setTag (pair 1 2) (some (committed .read (some atFifo)))
       u.latch = false ∧ u.stalled (pair 1 2) = true ∧ (full 0).stalled (pair 1 2) = false) :=
  ⟨lawful_of (by decide +kernel), by decide +kernel, by decide +kernel, lawful_of (by decide +kernel), by decide +kernel,
    by decide, by decide +kernel, by decide +kernel, by decide +kernel, by decide +kernel⟩

theorem meets_OnlyCommittedWritesReachTheTarget :
    AccessLaw (betweenBeats performing) ∧
      ((betweenBeats performing).after .beatIssue).strobes = [⟨true, 0, 0x10, 0xF, 7⟩] ∧
      Lawful (betweenBeats lockPerforming) ∧
      ((betweenBeats lockPerforming).after .beatIssue).strobes = [⟨true, 0, 0x10, 0xF, 7⟩] :=
  ⟨by decide +kernel, by decide +kernel, lawful_of (by decide +kernel), by decide +kernel⟩

theorem meets_ReadCommandsAnswerSnapshots :
    part.listens = true ∧ part.operating ≠ .loading ∧ (15 : Byte).toNat = (15 : RegionIx).val ∧ 16 ≤ (16 : Byte).toNat ∧
      (7 : Byte).toNat = (pair 7 15).initiator.val ∧ (15 : Byte).toNat = (pair 7 15).tag.val ∧
      (31 : Byte).toNat = (31 : EntryIx).val ∧ 32 ≤ (32 : Byte).toNat ∧ drained.apply = .draining 3 0 ∧
      captured.tag (pair 1 2) = some answeredRead ∧ answeredRead.place = some atFifo ∧
      captured.entries[(6 : EntryIx)] = some (held (.captured (pair 1 2)) [1, 2]) ∧
      (writing lockWrite).slots[(0 : SlotIx)] = some (lock (.writing 4) (some 3)) := by decide +kernel

theorem meets_LoadingAnswersBusy :
    Instr.hold.wellFormed = true ∧ encodeFrame .hold = some (0x40 :: []) ∧
      { part with operating := .loading }.listens = true ∧ (0x40 : Byte) ∈ Config.commandCodes ∧
      (Instr.unknownCommand 0x7F).wellFormed = true ∧ encodeFrame (.unknownCommand 0x7F) = some (0x7F :: []) ∧
      (0x7F : Byte) ∉ Config.commandCodes := by decide +kernel

theorem meets_EventCommandsAct :
    part.listens = true ∧ part.operating ≠ .loading ∧ part.events = [] ∧
      { part with events := [{ kind := .unmapped }] }.events = { kind := .unmapped } :: [] ∧
      QueueLaw { part with events := [{ kind := .unmapped }] } := by decide +kernel

theorem meets_RaisingStoresOrRefuses :
    { part with events := List.replicate 15 { kind := .unmapped } }.events.length < 16 ∧
      16 ≤ { part with events := List.replicate 16 { kind := .unmapped } }.events.length ∧
      eventKinds[9]? = some .unmapped ∧ part.alertMask.getLsbD 9 = true ∧ part.alert = false ∧
      { part with events := [{ kind := .unmapped }] }.alert = true ∧
      { part with events := [{ kind := .unmapped }], alertMask := 0x1FDFF }.alert = false ∧
      { part with alertMask := 0, overflow := true }.alert = true := by decide +kernel

/-- R177: ALERT is deasserted by the TAKE EVENT of the last record of an enabled kind, by CLEAR OVERFLOW, and by SET ALERT
MASK. -/
theorem test_alert_is_deasserted :
    ({ part with events := [{ kind := .unmapped }] }.after .takeEvent).alert = false ∧
      ({ part with overflow := true }.after .clearOverflow).alert = false ∧
      ({ part with events := [{ kind := .unmapped }] }.after (.setAlertMask 0x1FDFF)).alert = false := by decide +kernel

theorem meets_StagingAndApplying :
    part.listens = true ∧ part.operating ≠ .loading ∧
      (Vector.ofFn fun k : Fin 16 => (packRegion 3 fifo).getD k.val 0).toList = packRegion 3 fifo ∧
      part.apply = .idle ∧ draining.apply ≠ .idle ∧ part.staging.valid = true ∧
      { part with staging := { fifo with lock := true } }.staging.valid = false ∧ part.useCount 3 = 0 ∧
      heldWrite.useCount 0 ≠ 0 ∧
      (let s := { drained with apply := .idle }
       s.useCount 3 = 0 ∧ (s.entriesWhere fun c => c.isStrand && decide (c.region = 3)) ≠ []) := by decide +kernel

theorem meets_SettingWaitLimitsAndTheState :
    part.listens = true ∧ part.operating ≠ .loading ∧ (3 : Byte).toNat = (3 : Select).val ∧ (1 : Byte) ≠ 0 ∧
      4 ≤ (4 : Byte).toNat := by decide +kernel

theorem meets_DiscardingStrands :
    drained.listens = true ∧ drained.operating ≠ .loading ∧ drained.events.length < 16 ∧
      (drained.strands.filter fun x => decide (x.2.select = 2) && (drained.heldRange x.2).contains 0x43) ≠ [] ∧
      2 < (3 : Byte).toNat := by decide +kernel

theorem meets_FramesCarryOneCommand :
    { part with port := .deselected }.port = .deselected ∧ part.port ≠ .deselected ∧
      encodeFrame (.setSelect 2 0x14) = some [0x13, 0x02, 0x14] ∧ (Instr.setSelect 2 0x14).wellFormed = true ∧
      part.listens = true ∧ { part with port := .deselected }.accepts [0x13, 0x02, 0x14] = false ∧
      (clockAll [0x13, 0x02] part).accepts [0x13, 0x02, 0x14] = true ∧
      (clockAll [0x13, 0x03] part).accepts [0x13, 0x02, 0x14] = false ∧
      (part.answered 0x01 [] [0x00]).port =
        .frame { phase := .turnaround, code := some 0x01, params := [], response := [0x00], sent := 0 } := by
  and_intros <;> decide +kernel

/-- R161 and R162: a frame of SET SELECT, byte by byte, and the response it clocks out. -/
theorem test_frame_byte_by_byte :
    (clockAll [0x13, 0x02] part).port =
        .frame { phase := .parameters, code := some 0x13, params := [0x02], response := [], sent := 0 } ∧
      (clockAll [0x13, 0x02] part).waitLimits[(2 : Select)] = 32 ∧
      (clockAll [0x13, 0x02, 0x14] part).waitLimits[(2 : Select)] = 0x14 ∧
      ((List.range 8).map fun k => (clockAll ([0x13, 0x02, 0x14, 0xFF] ++ List.replicate k 0xFF) part).dataOut) =
        [some 0x00, some 0x20, some 0x20, some 0x14, some 0x20, some 0x00, some 0x00, some 0x00] := by
  and_intros <;> decide +kernel

/-- R162: a short frame has no effect. -/
theorem test_short_frame :
    (clockAll [0x13, 0x02] part).after .frameEnd = { part with port := .deselected } := by decide +kernel

/-- Log entry 9: with no command waiting a step clocks the next byte. -/
theorem test_step_clocks_a_byte :
    step { part with dataIn := [0x40, 0x55] } = .next { part.after .hold with dataIn := [0x55] } := rfl

theorem meets_PowerOnResetEmptiesThePart : part.port ≠ .deselected ∧ State.reset.port = .deselected := by decide +kernel

theorem meets_HostLinkResetSparesCommittedWrites :
    Lawful twoRecords ∧ twoRecords.apply = .idle ∧
      twoRecords.entries[(6 : EntryIx)] = some (held (.captured (pair 1 2)) [1, 2]) ∧ Lawful performing ∧
      performing.access = some (access (pair 1 2) .write atMemory none) ∧ Lawful twoCaptured ∧ twoCaptured.apply = .idle ∧
      Lawful (filling [1] (some ⟨0, 20⟩)) ∧ Lawful (fillingBeside [1]) ∧ Lawful (fillingBeside []) ∧
      Lawful (removed [1] (some 6)) ∧ (fillingBeside [1]).apply = .idle ∧
      (removed [1] (some 6)).access.map (·.live) = some false :=
  ⟨lawful_of (by decide +kernel), by decide +kernel, by decide +kernel, lawful_of (by decide +kernel), by decide +kernel,
    lawful_of (by decide +kernel), by decide, lawful_of (by decide +kernel), lawful_of (by decide +kernel),
    lawful_of (by decide +kernel), lawful_of (by decide +kernel), by decide, by decide +kernel⟩

theorem meets_TheHeaderIsChecked :
    State.reset.boot = .header ∧ header[0] = 0xA7 ∧ header[1] = 0x3C ∧ header[2] = 0xA7 ∧ header[3] = 0x3C ∧
      header[4] = 1 ∧ header[5].toNat ≤ 16 ∧ 10 ≤ header[6].toNat ∧ header[6].toNat ≤ 100 ∧
      (header.set 4 2)[4] ≠ 1 ∧ 16 < (header.set 5 17)[5].toNat ∧ (header.set 6 9)[6].toNat < 10 ∧
      100 < (header.set 6 101)[6].toNat ∧ (header.set 7 0)[7] = 0 ∧ (header.set 11 0)[11] = 0 := by decide +kernel

/-- A body of two records of the same index, less its checksum bytes. -/
def twice : List Byte := packRegion 3 fifo ++ packRegion 3 fifo

theorem meets_LoadingEnds :
    (let s := { State.reset with boot := .body header }
     let sum := fun image : List Byte => ((List.range (image.length / 2)).map fun k =>
       (image.getD (2 * k) 0).toNat + 256 * (image.getD (2 * k + 1) 0).toNat).sum
     s.boot = .body header ∧ ([0x58, 0x32] : List Byte).length = 16 * header[5].toNat + 2 ∧
      sum (header.toList ++ [0x58, 0x32]) % 65536 = 0 ∧ sum (header.toList ++ [0, 0]) % 65536 ≠ 0) ∧
      (unpackRegion (packRegion 3 { fifo with lock := true })).valid = false ∧
      checkBody (header.set 5 2) (twice ++ [0x5E, 0x70]) = some (.corrupt 6 28 3) := by decide +kernel

theorem meets_QueueAndRegionsKeepTheirLaws : QueueLaw part ∧ RegionLaw part ∧ step part = .next part :=
  ⟨by decide, by decide +kernel, rfl⟩

/-- R8 at the bounds of its bullets: a change that makes the FIFO port's entry break one bullet alone. -/
theorem test_invalid_entries :
    fifo.valid = true ∧ { fifo with cls := 0, hostExp := 40 }.valid = true ∧ { fifo with cls := 4 }.valid = false ∧
      { fifo with mode := 2 }.valid = false ∧ { fifo with hostExp := 11, hostBase := 0x800 }.valid = false ∧
      { fifo with hostExp := 32, hostBase := 0 }.valid = true ∧ { fifo with hostExp := 33, hostBase := 0 }.valid = false ∧
      { fifo with spanExp := 1 }.valid = false ∧ { fifo with spanExp := 13, targetBase := 0 }.valid = false ∧
      { fifo with hostBase := 0x1800 }.valid = false ∧ { fifo with targetBase := 0x42 }.valid = false ∧
      { fifo with lockLimit := 0 }.valid = false := by decide +kernel

theorem meets_LocksStayExclusive : LockLaw locked ∧ step locked = .next locked := ⟨by decide +kernel, rfl⟩

theorem meets_TablesStayLawful : Lawful captured ∧ step captured = .next captured :=
  ⟨lawful_of (by decide +kernel), rfl⟩

theorem meets_EncodingsReadBack :
    (Instr.discardStrands 2 0 2 0x40).wellFormed = true ∧
      encodeFrame (.discardStrands 2 0 2 0x40) = some [0x30, 2, 0, 2, 0x40, 0, 0, 0] ∧
      decodeFrame [0x30, 0, 0, 0, 0, 0, 0] = none ∧ (0x30, 7) ∈ parameterTable ∧
      encodeMessage (.commit (pair 1 2)) = some (verdictMessage 5 (pair 1 2)) := by decide +kernel

end Sys2Proof.Tests
end

section
/-! SUPPORT. The rest of an event that brings nothing about: after it the state is as the event's own effects left it. -/

namespace Sys2Proof.Machine

/-! ## Nothing due -/

/-- No initiator has an UNLOCK ready, so none is performed (R141). -/
theorem performUnlocks_of_none_ready {s : State} (h : ∀ i, s.readyUnlock i = none) : performUnlocks s = s := by
  have stays (i : Initiator) : performReady i 16 s = s := by rw [performReady, h i]
  exact List.foldl_fixed' stays _

/-- No drain is due, so none is completed (R14). -/
theorem completeDrain_of_not_due {s : State} (h : s.drainDue = false) : completeDrain s = s := by
  unfold completeDrain
  cases ha : s.apply with
  | idle => rfl
  | draining r n =>
    have used : s.useCount r ≠ 0 := by simpa [State.drainDue, ha] using h
    exact if_neg used

/-- Where nothing is due, the latch alone follows. -/
theorem settle_of_settled (s : State) {u : State} (h : Settled u) : settle s u = followLatch s u := by
  obtain ⟨hready, hdrain⟩ := h
  rw [settle, performUnlocks_of_none_ready hready, completeDrain_of_not_due hdrain]

/-- The grant order reaches no pair that satisfies `f`, if none does. -/
theorem State.firstInTurn_eq_none (s : State) {f : Pair → Bool} (h : ∀ p, f p = false) : s.firstInTurn f = none := by
  have unmet (i : Initiator) : (pairsOf i).filter f = [] := by simp [h]
  simp [State.firstInTurn, unmet, State.oldestOf]

/-- The latch stands where no read comes to be stalled and the free count is the same (R82, R83). -/
theorem followLatch_of_same {s u : State} (hstall : ∀ p, u.stalled p = true → s.stalled p = true)
    (hfree : u.freeCount = s.freeCount) : followLatch s u = u := by
  have notNew (p : Pair) : (u.stalled p && !s.stalled p) = false := by
    cases hp : u.stalled p with
    | false => rfl
    | true => simp [hstall p hp]
  have unset : latchSet s u = u := by
    rw [latchSet, u.firstInTurn_eq_none notNew]
    exact ite_self u
  have unrisen : ¬(s.freeCount < Config.rearmLevel ∧ Config.rearmLevel ≤ u.freeCount) := by omega
  rw [followLatch, unset, latchClear, if_neg unrisen]

/-! ## States that the rest of an event cannot tell apart -/

/-- `u` has the region table, apply state, capture entries and reservations of `s`, and its records, but for records on
pairs free in `s` that wait for nothing: DONE and without a place, as an error record is (R31). -/
structure AddsIdleRecords (s u : State) : Prop where
  regions : u.regions = s.regions
  apply : u.apply = s.apply
  entries : u.entries = s.entries
  slots : u.slots = s.slots
  tags : ∀ p, u.tag p = s.tag p ∨
    s.tag p = none ∧ ∃ w, u.tag p = some w ∧ w.position = .done ∧ w.place = none

/-- The capture-entry condition reads the entries and the region table alone (R69, R70, R90). -/
theorem State.captureOk_congr {s u : State} (he : u.entries = s.entries) (hr : u.regions = s.regions) (r : TagRecord)
    (pl : Place) : u.captureOk r pl = s.captureOk r pl := by
  cases s
  cases u
  subst he hr
  rfl

namespace AddsIdleRecords

variable {s u : State}

theorem respond (h : AddsIdleRecords s u) (r : Response) : AddsIdleRecords s (u.respond r) :=
  ⟨h.regions, h.apply, h.entries, h.slots, h.tags⟩

theorem raise (h : AddsIdleRecords s u) (e : EventRecord) : AddsIdleRecords s (u.raise e) :=
  ⟨h.regions, h.apply, h.entries, h.slots, h.tags⟩

theorem refl (s : State) : AddsIdleRecords s s := ⟨rfl, rfl, rfl, rfl, fun _ => .inl rfl⟩

/-- What no idle record meets, the same records meet. -/
theorem tag_any (h : AddsIdleRecords s u) {f : TagRecord → Bool}
    (hf : ∀ w : TagRecord, w.position = .done → w.place = none → f w = false) (p : Pair) :
    (u.tag p).any f = (s.tag p).any f := by
  obtain hp | ⟨hs, w, hu, hdone, hplace⟩ := h.tags p
  · rw [hp]
  · rw [hs, hu]
    exact hf w hdone hplace

theorem olderWaiting (h : AddsIdleRecords s u) (p : Pair) (r : TagRecord) : u.olderWaiting p r = s.olderWaiting p r := by
  unfold State.olderWaiting State.anyRecord
  simp only [h.tag_any (f := fun o => decide (o.order < r.order) && o.ordered && decide (o.position = .waiting))
    fun w hdone _ => by simp [hdone]]

theorem olderOverlap (h : AddsIdleRecords s u) (p : Pair) (r : TagRecord) (pl : Place) :
    u.olderOverlap p r pl = s.olderOverlap p r pl := by
  unfold State.olderOverlap State.anyRecord
  congr 1
  funext q
  exact h.tag_any (fun w hdone _ => by simp [hdone]) q

theorem readyUnlock (h : AddsIdleRecords s u) (i : Initiator) : u.readyUnlock i = s.readyUnlock i := by
  unfold State.readyUnlock
  congr 1
  funext p
  simp only [h.olderWaiting]
  exact h.tag_any (fun w hdone _ => by simp [hdone]) p

theorem useCount (h : AddsIdleRecords s u) (r : RegionIx) : u.useCount r = s.useCount r := by
  have records : u.recordUses r = s.recordUses r := by
    unfold State.recordUses
    congr 1
    funext p
    exact h.tag_any (fun w _ hplace => by simp [hplace]) p
  have entries : u.entryUses r = s.entryUses r := by simp only [State.entryUses, State.entriesWhere, h.entries]
  have slots : u.slotUses r = s.slotUses r := by simp only [State.slotUses, h.slots]
  simp only [State.useCount, records, entries, slots]

theorem drainDue (h : AddsIdleRecords s u) : u.drainDue = s.drainDue := by
  simp only [State.drainDue, h.apply, h.useCount]

theorem freeCount (h : AddsIdleRecords s u) : u.freeCount = s.freeCount := by
  unfold State.freeCount
  congr 1
  funext e
  simp only [State.isFree, h.entries]

theorem candidate (h : AddsIdleRecords s u) (p : Pair) (r : TagRecord) (pl : Place) :
    u.candidate p r pl = s.candidate p r pl := by
  have reservations : u.reservationOk p r pl = s.reservationOk p r pl := by
    simp only [State.reservationOk, State.reservedAgainst, State.slotWhere, h.slots]
  simp only [State.candidate, State.orderOk, h.olderWaiting, h.olderOverlap, reservations]

theorem stalled (h : AddsIdleRecords s u) (p : Pair) : u.stalled p = s.stalled p := by
  unfold State.stalled
  obtain hp | ⟨hs, w, hu, -, hplace⟩ := h.tags p
  · simp only [hp, h.candidate, State.captureOk_congr h.entries h.regions]
  · simp only [hs, hu, hplace]

theorem settled (h : AddsIdleRecords s u) (hs : Settled s) : Settled u := by
  obtain ⟨hready, hdrain⟩ := hs
  exact ⟨fun i => (h.readyUnlock i).trans (hready i), h.drainDue.trans hdrain⟩

/-- An event that began with nothing due and adds at most idle records brings nothing else about. -/
theorem settle_eq (h : AddsIdleRecords s u) (hs : Settled s) : settle s u = u := by
  rw [settle_of_settled s (h.settled hs)]
  exact followLatch_of_same (fun p hp => (h.stalled p).symm.trans hp) h.freeCount

end AddsIdleRecords

end Sys2Proof.Machine
end

section
/-! SUPPORT. The acceptance of a request in the terms of the statements, and the statement about the address checks of
step 4 (R25). -/

namespace Sys2Proof.Machine

/-! ## Acceptance in the terms of the statements -/

/-- A request of any kind is accepted, or turned away, and the event then comes to rest. -/
theorem exec_requestOf (kind : Kind) (q : Request) (s : State) :
    exec (requestOf kind q) s = .next (settle s (accept kind q s)) := by cases kind <;> rfl

/-- The check of R28 finds the ways to be malformed that R28 lists. -/
theorem malformed_iff (kind : Kind) (q : Request) : malformed kind q = true ↔ IllFormed kind q := by
  have zero : q.count = 0 ↔ q.count.toNat = 0 := BitVec.toNat_inj.symm
  have one : q.count = 1 ↔ q.count.toNat = 1 := BitVec.toNat_inj.symm
  have notOne : q.count.toNat = 0 ∨ 8 < q.count.toNat → q.count.toNat ≠ 1 := by omega
  unfold IllFormed
  rw [zero, Ne, Ne, one]
  cases kind with
  | unlock => simp [malformed, Carries]
  | read | write => simp [malformed, Carries, or_assoc]
  | lockRead | lockWrite =>
    simp only [malformed, Carries, Bool.or_eq_true, Bool.not_eq_true', decide_eq_true_eq, decide_eq_false_iff_not,
      List.isEmpty_eq_false_iff]
    tauto

/-- The host window of an entry goes from its host base on over its host size (R1). -/
theorem RegionEntry.covers_iff (e : RegionEntry) (a : Nat) :
    e.covers a = true ↔ e.hostBase.toNat ≤ a ∧ a < e.hostBase.toNat + e.hostSize := by simp [RegionEntry.covers]

/-- The check of R7 for a burst that leaves the window is that of the statements. -/
theorem splits_iff (e : RegionEntry) (q : Request) : splits e q = true ↔ LeavesWindow e q := by
  have step : modeOf e.mode = .step ↔ e.mode = 1 := by
    unfold modeOf
    split <;> simp_all
  rw [splits, Bool.and_eq_true, decide_eq_true_eq, Bool.not_eq_true', ← Bool.not_eq_true, RegionEntry.covers_iff, step]
  rfl

/-- The record of any pair after one has joined. -/
theorem State.tag_joinedBy (s : State) (q : Request) (r : TagRecord) (p : Pair) :
    (s.joinedBy q r).tag p = if p = q.pair then some r else s.tag p := s.tag_setTag q.pair p (some r)

/-- A refusal with ERROR is the response and, for a speculative request, the error record of R31. -/
theorem refuse_eq_refusedWith (kind : Kind) (q : Request) (status : Status) (s : State) :
    refuse kind q status s = s.refusedWith kind q status := by
  unfold refuse State.refusedWith
  cases hspec : q.speculative with
  | false => rfl
  | true => simp [addRecord, errorRecord, State.joinedBy, recordWith, requestSize, Request.pair, hspec]

/-- The error record of a refusal on a free pair is idle. -/
theorem addsIdleRecords_refusedWith (kind : Kind) (q : Request) (status : Status) {s : State} (hfree : s.tag q.pair = none) :
    AddsIdleRecords s (s.refusedWith kind q status) := by
  unfold State.refusedWith
  cases q.speculative with
  | false => exact (AddsIdleRecords.refl s).respond _
  | true =>
    refine ⟨rfl, rfl, rfl, rfl, fun p => ?_⟩
    rw [if_pos rfl, State.tag_joinedBy]
    by_cases hp : p = q.pair
    · exact .inr ⟨hp ▸ hfree, _, if_pos hp, rfl, rfl⟩
    · exact .inl (if_neg hp)

/-- A request other than UNLOCK that passes steps 1 to 3 comes to the address checks (R25). -/
theorem accept_of_reachesAddress {kind : Kind} {q : Request} {s : State} (hkind : kind ≠ .unlock)
    (h : ReachesAddress kind q s) : accept kind q s = addressed kind q s := by
  obtain ⟨hrun, hfree, hform⟩ := h
  have wellFormed : malformed kind q = false := by rwa [← malformed_iff, Bool.not_eq_true] at hform
  cases kind with
  | unlock => exact absurd rfl hkind
  | read | write | lockRead | lockWrite => simp [accept, hrun, hfree, wellFormed]

/-! ## The address checks (R7) -/

section
variable {kind : Kind} {q : Request} {s : State}

theorem addressed_of_unmapped (h : matchRegion s.regions q.address = none) : addressed kind q s =
    (s.refusedWith kind q .unmapped).raise
      { kind := .unmapped, initiator := q.initiator, tag := BitVec.ofNat 8 q.tag.val, address := q.address } := by
  simp only [addressed, h, refuse_eq_refusedWith, tagField]

variable {r : RegionIx} {c : RegionClass}

theorem addressed_of_misaligned (h : matchRegion s.regions q.address = some (r, c))
    (hoff : q.address.toNat % (beatSizeOf q.sizeCode).bytes ≠ 0) :
    addressed kind q s = s.refusedWith kind q .misaligned := by
  simp only [addressed, h, refuse_eq_refusedWith]
  exact if_pos hoff

theorem addressed_of_leavesWindow (h : matchRegion s.regions q.address = some (r, c))
    (halign : q.address.toNat % (beatSizeOf q.sizeCode).bytes = 0) (hleaves : LeavesWindow s.regions[r] q) :
    addressed kind q s = s.refusedWith kind q .splitRegion := by
  have hsplit : splits s.regions[r] q = true := (splits_iff _ _).2 hleaves
  simp only [addressed, h, refuse_eq_refusedWith]
  exact (if_neg (not_not.2 halign)).trans (if_pos hsplit)

end

/-- An address check that fails with an idle record at most decides the whole event. -/
theorem exec_of_addressed {kind : Kind} {q : Request} {s u : State} (hkind : kind ≠ .unlock) (hs : Settled s)
    (hreach : ReachesAddress kind q s) (hu : addressed kind q s = u) (hidle : AddsIdleRecords s u) :
    exec (requestOf kind q) s = .next u := by
  rw [exec_requestOf, accept_of_reachesAddress hkind hreach, hu, hidle.settle_eq hs]

/-- Settles O9: each refusal leaves at most an error record, so nothing comes of it at the event's end. -/
theorem addressErrorsInOrder : Obligations.AddressErrorsInOrder := by
  rintro kind q s hkind hs ⟨hrun, hfree, hform⟩
  have decides {u : State} := exec_of_addressed (u := u) hkind hs ⟨hrun, hfree, hform⟩
  have idle (status : Status) := addsIdleRecords_refusedWith kind q status hfree
  refine ⟨fun hmatch => decides (addressed_of_unmapped hmatch) ((idle _).raise _), fun r c hmatch => ⟨?_, ?_⟩⟩
  · intro hoff
    exact decides (addressed_of_misaligned hmatch hoff) (idle _)
  · intro halign hleaves
    exact decides (addressed_of_leavesWindow hmatch halign hleaves) (idle _)

end Sys2Proof.Machine
end

section
/-! SUPPORT. The entries of a kind, the use count in the terms of the statements, what a region change does field by field,
and the statement about the two ends of a drain. -/

namespace Sys2Proof.Machine

/-! ## The entries of a kind -/

section
variable (f : CaptureEntry → Bool) (s : State)

/-- The entries of a kind are those of the table that satisfy it. -/
theorem State.mem_entriesWhere (x : Numbered) : x ∈ s.entriesWhere f ↔ s.entries[x.1] = some x.2 ∧ f x.2 = true := by
  obtain ⟨e, c⟩ := x
  simp only [State.entriesWhere, List.mem_filterMap, List.mem_finRange, true_and]
  constructor
  · rintro ⟨d, hd⟩
    split at hd
    · split at hd <;> simp_all
    · simp_all
  · rintro ⟨he, hf⟩
    exact ⟨e, by simp [he, hf]⟩

/-- The entries of a kind are listed by number, each once. -/
theorem State.entriesWhere_numbers :
    (s.entriesWhere f).map (·.1) = (List.finRange 32).filter fun e : EntryIx => (s.entries[e]).any f := by
  rw [State.entriesWhere, List.map_filterMap, ← List.filterMap_eq_filter]
  congr 1
  funext e
  obtain he | ⟨c, he⟩ := (s.entries[e]).eq_none_or_eq_some
  · simp [he, Option.guard]
  · cases hf : f c <;> simp [he, hf, Option.guard]

/-- An entry is in the list of a kind by its number. -/
theorem State.number_mem_entriesWhere (e : EntryIx) :
    e ∈ (s.entriesWhere f).map (·.1) ↔ (s.entries[e]).any f = true := by
  simp [State.entriesWhere_numbers]

theorem State.length_entriesWhere :
    (s.entriesWhere f).length = (List.finRange 32).countP fun e : EntryIx => (s.entries[e]).any f := by
  rw [← List.length_map (f := (·.1)), State.entriesWhere_numbers, List.countP_eq_length_filter]

end

/-! ## The use count (R11) -/

/-- The records of a region are counted initiator by initiator. -/
theorem State.recordUses_eq_sum (s : State) (r : RegionIx) : s.recordUses r =
    ((List.finRange 8).map fun i : Initiator => (List.finRange 16).countP fun t : Tag =>
      (s.tag ⟨i, t⟩).any fun w => w.place.any fun pl => decide (pl.region = r)).sum := by
  have named (w : TagRecord) :
      decide (w.place.map (·.region) = some r) = w.place.any fun pl => decide (pl.region = r) := by
    cases w.place <;> simp
  simp only [State.recordUses, allPairs, List.countP_flatMap, Function.comp_def, List.countP_map, named]

/-! ## Discards and region changes, field by field -/

/-- The entries that are named become FREE, the others stay. -/
theorem entries_freeEntries (es : List Numbered) (s : State) (e : EntryIx) :
    (freeEntries es s).entries[e] = if e ∈ es.map (·.1) then none else s.entries[e] := by
  induction es generalizing s with
  | nil => rfl
  | cons x es ih =>
    rw [freeEntries, List.foldl_cons, ← freeEntries, ih, State.entries_setEntry]
    by_cases hes : e ∈ es.map (·.1) <;> by_cases hx : e = x.1 <;> simp [hes, hx]

/-- A discard of the entries of a kind frees these and no others. -/
theorem entries_discard (f : CaptureEntry → Bool) (event : EventRecord) (s : State) (e : EntryIx) :
    (discard (s.entriesWhere f) event s).entries[e] = if (s.entries[e]).any f then none else s.entries[e] := by
  have freed : (freeEntries (s.entriesWhere f) s).entries[e] = if (s.entries[e]).any f then none else s.entries[e] := by
    simp only [entries_freeEntries, State.number_mem_entriesWhere]
  unfold discard
  split
  · rename_i hnone
    rwa [hnone] at freed
  · exact freed

/-- A discard with room in the queue raises its event if it discards anything, and refuses none (R105). -/
theorem events_discard (es : List Numbered) (event : EventRecord) (s : State) (room : s.events.length < Config.queueDepth) :
    (discard es event s).events = s.events ++ (if es = [] then [] else
      [{ event with countA := count16 es.length, countB := count16 (beatsHeld es), timestamp := s.timebase }]) ∧
    (discard es event s).overflow = s.overflow := by
  unfold discard
  split
  · exact ⟨(List.append_nil _).symm, rfl⟩
  · obtain ⟨freed, hfreed⟩ := freeEntries_only es s
    rw [hfreed]
    exact State.raise_stores _ _ room

section
variable (r : RegionIx) (s : State)

/-- A change gives the entry the staging record and leaves the others (R12). -/
theorem regions_makeChange (q : RegionIx) :
    (makeChange r s).regions[q] = if q = r then s.staging else s.regions[q] := by
  have unmoved : (makeChange r s).regions = s.regions.set r s.staging := by
    obtain ⟨es, ev, o, h⟩ := discard_only (s.entriesWhere fun c => c.isStrand && decide (c.region = r))
      { kind := .strandsDiscarded, region := r } { s with regions := s.regions.set r s.staging }
    rw [makeChange, h]
  rw [unmoved, Fin.getElem_fin, Vector.getElem_set]
  simp only [Fin.ext_iff, eq_comm, Fin.getElem_fin]

/-- A change discards the strands of the index and no other entry (R12). -/
theorem entries_makeChange (e : EntryIx) : (makeChange r s).entries[e] =
    if (s.entries[e]).any (fun c => c.isStrand && decide (c.region = r)) then none else s.entries[e] :=
  entries_discard _ _ { s with regions := s.regions.set r s.staging } e

/-- A change with room in the queue raises STRANDS_DISCARDED with cause 0 if there was a strand (R105). -/
theorem events_makeChange (room : s.events.length < Config.queueDepth) :
    let gone := s.entriesWhere fun c => c.isStrand && decide (c.region = r)
    (makeChange r s).events = s.events ++ (if gone = [] then [] else
      [{ kind := .strandsDiscarded, region := r, timestamp := s.timebase, countA := count16 gone.length
         countB := count16 (beatsHeld gone) }]) ∧
    (makeChange r s).overflow = s.overflow :=
  events_discard _ _ { s with regions := s.regions.set r s.staging } room

end

/-! ## The ends of a drain -/

section
variable {s : State} {r : RegionIx} {n : Nat}

/-- With the use count at zero the change is made and APPLY_DONE follows (R14). -/
theorem completeDrain_of_unused (hdrain : s.apply = .draining r n) (hunused : s.useCount r = 0) :
    completeDrain s = (makeChange r { s with apply := .idle }).raise { kind := .applyDone, region := r } := by
  simp only [completeDrain, hdrain, hunused, if_true]

theorem exec_drainComplete_of_unused (hdrain : s.apply = .draining r n) (hunused : s.useCount r = 0) :
    exec .drainComplete s = .next (settle s (completeDrain s)) := by
  change execDrainComplete s = _
  simp only [execDrainComplete, hdrain, hunused, if_true]

/-- A completion with room for two records stores both, and sets no overflow flag (R14, R172). -/
theorem events_completeDrain (hdrain : s.apply = .draining r n) (hunused : s.useCount r = 0)
    (room : s.events.length ≤ 14) :
    let gone := s.entriesWhere fun c => c.isStrand && decide (c.region = r)
    let done : EventRecord := { kind := .applyDone, region := r, timestamp := s.timebase }
    (completeDrain s).events = s.events ++ (if gone = [] then [done] else
      [{ kind := .strandsDiscarded, region := r, timestamp := s.timebase, countA := count16 gone.length
         countB := count16 (beatsHeld gone) }, done]) ∧
    (completeDrain s).overflow = s.overflow := by
  intro gone done
  have two : s.events.length + 1 < Config.queueDepth := Nat.lt_succ_of_le (Nat.succ_le_succ room)
  obtain ⟨hevents, hoverflow⟩ := events_makeChange r { s with apply := .idle } (Nat.lt_of_succ_lt two)
  have room' : (makeChange r { s with apply := .idle }).events.length < Config.queueDepth := by
    rw [hevents, List.length_append]
    split <;> simp only [List.length_nil, List.length_singleton] <;> omega
  have htime : (makeChange r { s with apply := .idle }).timebase = s.timebase := by
    obtain ⟨_, _, _, _, h⟩ := makeChange_only r { s with apply := .idle }
    rw [h]
  obtain ⟨hstored, hkept⟩ := State.raise_stores _ { kind := .applyDone, region := r } room'
  rw [completeDrain_of_unused hdrain hunused, hstored, hkept, hevents, htime, List.append_assoc]
  refine ⟨congrArg (s.events ++ ·) ?_, hoverflow⟩
  change (if gone = [] then _ else _) ++ _ = if gone = [] then _ else _
  split <;> rfl

/-- A completion with room for two records changes the apply state, the region table, the entries and the queue alone. -/
theorem completeDrain_frame (hdrain : s.apply = .draining r n) (hunused : s.useCount r = 0)
    (room : s.events.length ≤ 14) : completeDrain s =
      { s with apply := (completeDrain s).apply, regions := (completeDrain s).regions
               entries := (completeDrain s).entries, events := (completeDrain s).events } := by
  obtain ⟨-, hoverflow⟩ := events_completeDrain hdrain hunused room
  obtain ⟨a, g, es, q, o, h⟩ := completeDrain_only s
  rw [h] at hoverflow ⊢
  rw [← hoverflow]

/-- A drain timer that has run out returns to IDLE with APPLY_TIMEOUT (R15). -/
theorem exec_drainTimerExpiry_of_due (hdrain : s.apply = .draining r 0) : exec .drainTimerExpiry s =
    .next ({ s with apply := .idle }.raise
      { kind := .applyTimeout, region := r, countA := BitVec.ofNat 16 (s.useCount r) }) := by
  change Host.Outcome.next (expireDrain s) = _
  simp only [expireDrain, hdrain]
  rfl

end

/-- Settles O28: a completion is `completeDrain`, whose fields are those of the change and of the two records raised. -/
theorem drainsEnd : Obligations.DrainsEnd := by
  refine ⟨fun f s => ⟨s.entriesWhere_numbers f, fun x hx => ((s.mem_entriesWhere f x).1 hx).1⟩, fun r s => ?_,
    fun r n s hdrain => ⟨fun hunused room => ?_, ?_⟩⟩
  · rw [State.useCount, State.recordUses_eq_sum, State.entryUses, State.length_entriesWhere, State.slotUses]
  · have hdone := completeDrain_of_unused hdrain hunused
    refine ⟨completeDrain s, exec_drainComplete_of_unused hdrain hunused, ?_, fun q => ?_, fun e => ?_,
      (events_completeDrain hdrain hunused room).1, completeDrain_frame hdrain hunused room⟩
    · obtain ⟨_, _, _, _, hchange⟩ := makeChange_only r { s with apply := .idle }
      rw [hdone, hchange]
      rfl
    · rw [hdone]
      exact regions_makeChange r { s with apply := .idle } q
    · rw [hdone]
      exact entries_makeChange r { s with apply := .idle } e
  · rintro rfl
    exact exec_drainTimerExpiry_of_due hdrain

end Sys2Proof.Machine
end

section
/-! SUPPORT. The requests that steps 1 to 3 of the acceptance end (R25), and the statements about them. -/

namespace Sys2Proof.Machine

section
variable {kind : Kind} {q : Request} {s : State}

/-- Step 1 (R26). -/
theorem accept_of_not_running (hrun : s.operating ≠ .running) :
    accept kind q s = s.respond (.retry q.pair .notRunning) := if_pos hrun

/-- Step 2 (R27). -/
theorem accept_of_live (hrun : s.operating = .running) (hlive : (s.tag q.pair).isSome = true) : accept kind q s =
    s.raise { kind := .tagReuse, initiator := q.initiator, tag := BitVec.ofNat 8 q.tag.val } :=
  (if_neg (not_not.2 hrun)).trans (if_pos hlive)

/-- Step 3 (R28): nothing of the address is looked at. -/
theorem accept_of_illFormed (hrun : s.operating = .running) (hfree : s.tag q.pair = none) (hform : IllFormed kind q) :
    accept kind q s = s.refusedWith kind q .badRequest := by
  have notLive : ¬(s.tag q.pair).isSome = true := by simp [hfree]
  have bad : malformed kind q = true := (malformed_iff kind q).2 hform
  rw [← refuse_eq_refusedWith]
  exact (if_neg (not_not.2 hrun)).trans ((if_neg notLive).trans (if_pos bad))

/-- An acceptance that leaves an idle record at most is the whole event. -/
theorem exec_of_accept {u : State} (hs : Settled s) (hu : accept kind q s = u) (hidle : AddsIdleRecords s u) :
    exec (requestOf kind q) s = .next u := by
  rw [exec_requestOf, hu, hidle.settle_eq hs]

end

/-- Settles O6: a response or an event leaves the tables as they were, so nothing comes of it at the event's end. -/
theorem requestsTurnedAway : Obligations.RequestsTurnedAway := by
  intro kind q s hs
  refine ⟨fun hrun => ?_, fun hrun hlive => ?_⟩
  · exact exec_of_accept hs (accept_of_not_running hrun) ((AddsIdleRecords.refl s).respond _)
  · exact exec_of_accept hs (accept_of_live hrun hlive) ((AddsIdleRecords.refl s).raise _)

/-- Settles O7: the refusal leaves an error record at most, and that record is idle. -/
theorem malformedRequestsAreBad : Obligations.MalformedRequestsAreBad := by
  intro kind q s hs hrun hfree hform
  exact exec_of_accept hs (accept_of_illFormed hrun hfree hform) (addsIdleRecords_refusedWith kind q .badRequest hfree)

end Sys2Proof.Machine
end

section
/-! SUPPORT. The verdicts that only raise an event: on no live record (R43), and a COMMIT or KILL of a COMMITTED one (R44). -/

namespace Sys2Proof.Machine

variable {p : Pair} {r : TagRecord} {s : State}

/-! ## On no live record (R43) -/

theorem exec_commit_of_free (hfree : s.tag p = none) :
    exec (.commit p) s = .next (s.raise (verdictEvent .verdictUnknown p 5)) := by
  change execCommit p s = _
  rw [execCommit, hfree]

theorem exec_kill_of_free (hfree : s.tag p = none) :
    exec (.kill p) s = .next (s.raise (verdictEvent .verdictUnknown p 6)) := by
  change execKill p s = _
  rw [execKill, hfree]

theorem exec_flush_of_free (hfree : s.tag p = none) :
    exec (.flush p) s = .next (s.raise (verdictEvent .verdictUnknown p 7)) := by
  change execFlush p s = _
  rw [execFlush, hfree]

/-! ## On a COMMITTED record (R44) -/

theorem exec_commit_of_committed (hlive : s.tag p = some r) (hcommitted : r.verdict = .committed) :
    exec (.commit p) s = .next (s.raise (verdictEvent .verdictConflict p 5)) := by
  change execCommit p s = _
  simp only [execCommit, hlive, hcommitted]

theorem exec_kill_of_committed (hlive : s.tag p = some r) (hcommitted : r.verdict = .committed) :
    exec (.kill p) s = .next (s.raise (verdictEvent .verdictConflict p 6)) := by
  change execKill p s = _
  simp only [execKill, hlive, hcommitted]

/-- Settles O16: the record on the pair, if any, decides the case, and the statement writes out the fields of `verdictEvent`. -/
theorem verdictsThatChangeNothing : Obligations.VerdictsThatChangeNothing := by
  intro p s raised
  refine ⟨fun hfree => ?_, fun r hlive hcommitted => ?_⟩
  · exact ⟨exec_commit_of_free hfree, exec_kill_of_free hfree, exec_flush_of_free hfree⟩
  · exact ⟨exec_commit_of_committed hlive hcommitted, exec_kill_of_committed hlive hcommitted⟩

end Sys2Proof.Machine
end

section
/-! SUPPORT. What a release leaves, with the one reservation that can name the record (R35, R76, R133), and the statement
about a COMMIT of an uncommitted record. -/

namespace Sys2Proof.Machine

/-! ## The reservations of a kind -/

section
variable {s : State} {f : Reservation → Bool}

/-- No reservation of a kind is found where none satisfies it. -/
theorem State.slotWhere_eq_none_iff :
    s.slotWhere f = none ↔ ∀ k : SlotIx, ∀ v ∈ s.slots[k], f v = false := by
  simp only [State.slotWhere, List.findSome?_eq_none_iff, List.mem_finRange, true_imp_iff]
  refine forall_congr' fun k => ?_
  cases s.slots[k] with
  | none => simp
  | some v => simp

/-- A reservation that is found stands in its slot and is of the kind. -/
theorem State.slots_of_slotWhere_eq_some {k : SlotIx} {v : Reservation} (h : s.slotWhere f = some (k, v)) :
    s.slots[k] = some v ∧ f v = true := by
  obtain ⟨l, -, hl⟩ := List.exists_of_findSome?_eq_some h
  split at hl
  · split at hl <;> simp_all
  · simp at hl

end

section
variable {s : State} {p : Pair} {r : TagRecord}

/-! ## The reservation that names a record as its lock-read record (R133) -/

/-- The reservation of the pair's initiator whose lock-read record is the pair's. -/
abbrev Reservation.NamesLockRead (v : Reservation) (p : Pair) : Prop :=
  v.initiator = p.initiator ∧ v.lockRead = some p.tag

theorem State.namedByLockRead_eq_none_iff :
    s.namedByLockRead p = none ↔ ∀ k : SlotIx, ∀ v ∈ s.slots[k], ¬v.NamesLockRead p := by
  simp [State.namedByLockRead, State.slotWhere_eq_none_iff, Reservation.NamesLockRead]

/-- An initiator holds one reservation at most (R128), so the one that names the record is the one found. -/
theorem State.namedByLockRead_eq_some (hlaw : LockLaw s) {k : SlotIx} {v : Reservation} (hslot : s.slots[k] = some v)
    (hnames : v.NamesLockRead p) : s.namedByLockRead p = some (k, v) := by
  cases hfound : s.namedByLockRead p with
  | none => exact absurd hnames (State.namedByLockRead_eq_none_iff.1 hfound k v hslot)
  | some x =>
    obtain ⟨l, w⟩ := x
    obtain ⟨hw, hfw⟩ := State.slots_of_slotWhere_eq_some hfound
    simp only [Bool.and_eq_true, decide_eq_true_eq] at hfw
    have same : l = k := by
      by_contra hne
      exact (hlaw.1 l k hne w hw v hslot).1 (hfw.1.trans hnames.1.symm)
    subst same
    rw [hslot, Option.some_inj] at hw
    rw [hw]

theorem clearLockRead_of_unnamed (h : ∀ k : SlotIx, ∀ v ∈ s.slots[k], ¬v.NamesLockRead p) : clearLockRead p s = s := by
  rw [clearLockRead, State.namedByLockRead_eq_none_iff.2 h]

theorem clearLockRead_of_named (hlaw : LockLaw s) {k : SlotIx} {v : Reservation} (hslot : s.slots[k] = some v)
    (hnames : v.NamesLockRead p) : clearLockRead p s = s.setSlot k (some { v with lockRead := none }) := by
  rw [clearLockRead, State.namedByLockRead_eq_some hlaw hslot hnames]

/-! ## Release (R35) -/

/-- Of two values given to one pair the second stays. -/
@[simp] theorem State.setTag_setTag (s : State) (p : Pair) (x y : Option TagRecord) :
    (s.setTag p x).setTag p y = s.setTag p y := by
  simp [State.setTag]

/-- A release does not look at what its pair named. -/
@[simp] theorem releaseRecord_setTag (x : Option TagRecord) :
    releaseRecord p r (s.setTag p x) = releaseRecord p r s := by
  simp only [releaseRecord, State.setTag_setTag]

theorem freeEntryOf_slots : (freeEntryOf r s).slots = s.slots := by
  obtain ⟨es, h⟩ := freeEntryOf_only r s
  rw [h]

theorem freeEntryOf_lockLost : (freeEntryOf r s).lockLost = s.lockLost := by
  obtain ⟨es, h⟩ := freeEntryOf_only r s
  rw [h]

/-- A record that no reservation names leaves its pair and its entry free. -/
theorem releaseRecord_of_unnamed (h : ∀ k : SlotIx, ∀ v ∈ s.slots[k], ¬v.NamesLockRead p) :
    releaseRecord p r s = freeEntryOf r (s.setTag p none) :=
  clearLockRead_of_unnamed (by rwa [freeEntryOf_slots])

/-- A record that a reservation names as its lock-read record leaves that field clear as well. -/
theorem releaseRecord_of_named (hlaw : LockLaw s) {k : SlotIx} {v : Reservation} (hslot : s.slots[k] = some v)
    (hnames : v.NamesLockRead p) : releaseRecord p r s =
      (freeEntryOf r (s.setTag p none)).setSlot k (some { v with lockRead := none }) :=
  clearLockRead_of_named (by rwa [LockLaw, freeEntryOf_slots, freeEntryOf_lockLost]) (by rwa [freeEntryOf_slots]) hnames

/-- A record is finished when it is DONE, SENT and COMMITTED (R35). -/
theorem TagRecord.finished_iff :
    r.finished = true ↔ r.position = .done ∧ r.response = .sent ∧ r.verdict = .committed := by
  simp [TagRecord.finished, and_assoc]

theorem releaseIfFinished_of_finished (hlive : s.tag p = some r) (h : r.finished = true) :
    releaseIfFinished p s = releaseRecord p r s := by
  simp only [releaseIfFinished, hlive, h, if_true]

theorem releaseIfFinished_of_unfinished (hlive : s.tag p = some r) (h : ¬r.finished = true) :
    releaseIfFinished p s = s := by
  simp only [releaseIfFinished, hlive, if_neg h]

/-! ## COMMIT of an uncommitted record (R45, R76) -/

/-- The record of an uncommitted pair once a COMMIT has reached it. -/
def TagRecord.madeCommitted (r : TagRecord) : TagRecord := { r with verdict := .committed, timer := none }

theorem TagRecord.finished_madeCommitted_iff : r.madeCommitted.finished = true ↔ r.position = .done ∧ r.response = .sent := by
  simp [TagRecord.finished_iff, TagRecord.madeCommitted]

theorem exec_commit_of_uncommitted (hlive : s.tag p = some r) (hverdict : r.verdict = .none) :
    exec (.commit p) s = .next (settle s (releaseIfFinished p (s.setTag p (some r.madeCommitted)))) := by
  change execCommit p s = _
  simp only [execCommit, hlive, hverdict, TagRecord.madeCommitted]

theorem exec_commit_of_unfinished (hlive : s.tag p = some r) (hverdict : r.verdict = .none)
    (h : ¬(r.position = .done ∧ r.response = .sent)) :
    exec (.commit p) s = .next (settle s (s.setTag p (some r.madeCommitted))) := by
  rw [exec_commit_of_uncommitted hlive hverdict, releaseIfFinished_of_unfinished (State.tag_setTag_self ..)
    (mt TagRecord.finished_madeCommitted_iff.1 h)]

theorem exec_commit_of_answered (hlive : s.tag p = some r) (hverdict : r.verdict = .none)
    (h : r.position = .done ∧ r.response = .sent) :
    exec (.commit p) s = .next (settle s (releaseRecord p r s)) := by
  rw [exec_commit_of_uncommitted hlive hverdict, releaseIfFinished_of_finished (State.tag_setTag_self ..)
    (TagRecord.finished_madeCommitted_iff.2 h), releaseRecord_setTag]
  rfl

end

/-- Settles O17: a record that the COMMIT does not finish keeps its pair; one that it does is released, and by the lock law
at most one reservation names it. -/
theorem commitSetsOrReleases : Obligations.CommitSetsOrReleases := by
  intro p r s hlaw hlive hverdict
  refine ⟨exec_commit_of_unfinished hlive hverdict, ?_⟩
  intro hdone hsent freed
  have hfreed : freeEntryOf r (s.setTag p none) = freed := by
    simp only [freed, freeEntryOf]
    cases r.entry <;> rfl
  rw [exec_commit_of_answered hlive hverdict ⟨hdone, hsent⟩, ← hfreed]
  refine ⟨fun hunnamed => ?_, fun k v hslot hinitiator hread => ?_⟩
  · rw [releaseRecord_of_unnamed hunnamed]
  · rw [releaseRecord_of_named hlaw hslot ⟨hinitiator, hread⟩]

end Sys2Proof.Machine
end

section
/-! SUPPORT. The grant of a guarded read: what strands give it, what consuming them leaves, and the statement about a read
that they serve wholly (R71, R72). -/

namespace Sys2Proof.Machine

/-! ## What strands give a read (R96 to R98) -/

/-- No more beats are taken than the read needs. -/
theorem length_takenBeats_takeFrom_le (need : Nat) (xs : List Numbered) :
    (takenBeats (takeFrom need xs)).length ≤ need := by
  induction xs generalizing need with
  | nil => exact Nat.zero_le _
  | cons x xs ih =>
    rw [takeFrom]
    split
    · exact Nat.zero_le _
    · have later := ih (need - x.2.beats.length)
      have both : (takenBeats (⟨x.1, x.2, x.2.beats.take need⟩ :: takeFrom (need - x.2.beats.length) xs)).length =
          min need x.2.beats.length + (takenBeats (takeFrom (need - x.2.beats.length) xs)).length := by
        simp [takenBeats]
      omega

theorem length_takenBeats_consumption_le (s : State) (pl : Place) (size : BeatSize) (count : Nat) :
    (takenBeats (s.consumption pl size count)).length ≤ count := by
  unfold State.consumption
  split <;> exact length_takenBeats_takeFrom_le _ _

/-! ## The tests of a grant in the terms of the statements -/

section
variable {s : State} {r : TagRecord} {pl : Place}

/-- No strand is in conflict when all those under the read agree with it (R94). -/
theorem conflicts_eq_nil_iff : s.conflicts pl r.size r.count = [] ↔ NoConflict s r pl := by
  simp [State.conflicts, List.filter_eq_nil_iff, agrees, NoConflict, and_assoc]

theorem TagRecord.guarded_iff : r.guarded pl = true ↔ IsGuarded r pl := by
  simp [TagRecord.guarded, TagRecord.reads, IsGuarded]

/-- The lowest-numbered FREE entry is FREE, and no entry below it is (R71). -/
theorem State.lowestFree_eq_some_iff {e : EntryIx} :
    s.lowestFree = some e ↔ s.entries[e] = none ∧ ∀ d : EntryIx, d < e → s.entries[d] ≠ none := by
  rw [State.lowestFree, ← Fin.find?_eq_find?_finRange, Fin.find?_eq_some_iff]
  simp [State.isFree]

end

/-! ## What a grant sets first, and what consumption leaves -/

/-- The state in which a granted record's work begins: it is ISSUED, and the pointer has moved on (R147). -/
def State.granted (s : State) (p : Pair) (r : TagRecord) : State :=
  { s.setTag p (some { r with position := .issued }) with pointer := p.initiator + 1 }

/-- The state that taking beats from strands leaves (R96). -/
def consumeAll (ts : List Taken) (s : State) : State := ts.foldl (fun w t => consume t w) s

section
variable (s : State) (p : Pair) (r : TagRecord) (pl : Place)

theorem noConflict_granted : NoConflict (s.granted p r) { r with position := .issued } pl ↔ NoConflict s r pl := Iff.rfl

theorem consumption_granted (size : BeatSize) (count : Nat) :
    (s.granted p r).consumption pl size count = s.consumption pl size count := rfl

/-- Taking from a strand looks at no record and not at the pointer. -/
theorem consume_granted (t : Taken) : consume t (s.granted p r) = (consume t s).granted p r := by
  unfold consume
  split <;> rfl

theorem consumeAll_granted (ts : List Taken) : consumeAll ts (s.granted p r) = (consumeAll ts s).granted p r := by
  induction ts generalizing s with
  | nil => rfl
  | cons t ts ih =>
    calc consumeAll ts (consume t (s.granted p r))
        = consumeAll ts ((consume t s).granted p r) := by rw [consume_granted]
      _ = (consumeAll ts (consume t s)).granted p r := ih _

theorem consume_only (t : Taken) : ∃ es, consume t s = { s with entries := es } := by
  unfold consume
  split <;> exact ⟨_, rfl⟩

theorem consumeAll_only (ts : List Taken) : ∃ es, consumeAll ts s = { s with entries := es } :=
  foldl_only (fun s es => { s with entries := es }) (fun w t => consume t w) (fun _ => ⟨_, rfl⟩) (fun _ _ _ => rfl)
    (fun w t => consume_only w t) ts s

/-- The number that the next allocation gets is still to come. -/
theorem consumeAll_allocations (ts : List Taken) : (consumeAll ts s).allocations = s.allocations := by
  obtain ⟨es, h⟩ := consumeAll_only s ts
  rw [h]

end

/-! ## The grant of a guarded read that strands serve wholly (R71, R72) -/

section
variable {s : State} {p : Pair} {r : TagRecord} {pl : Place}

/-- The idle sequencer grants the first eligible record in turn (R146, R147). -/
theorem exec_grant_of_first (hidle : s.access = none) (hfirst : s.firstInTurn s.eligible = some p)
    (hlive : s.tag p = some r) (hplace : r.place = some pl) :
    exec .grant s = .next (settle s (grantRecord p r pl s)) := by
  change execGrant s = _
  simp only [execGrant, hidle, hfirst, hlive, hplace]

theorem grantRecord_of_guarded (hguarded : IsGuarded r pl) :
    grantRecord p r pl s = grantGuarded p { r with position := .issued } pl (s.granted p r) :=
  if_pos (TagRecord.guarded_iff.2 hguarded)

/-- The answer to a COMMITTED read ends in its release. -/
theorem servedWholly_of_committed (hverdict : r.verdict = .committed) (beats : List Word) :
    servedWholly p r beats s =
      releaseRecord p r (s.respond (.data p (dataStatus r) beats.length beats)) := by
  have hlive : ((s.setTag p (some { r with position := .done, response := .sent })).respond
      (.data p (dataStatus r) beats.length beats)).tag p = some { r with position := .done, response := .sent } :=
    State.tag_setTag_self ..
  rw [servedWholly, releaseIfFinished_of_finished hlive (TagRecord.finished_iff.2 ⟨rfl, rfl, hverdict⟩)]
  exact releaseRecord_setTag (s := s.respond _) _

/-- An uncommitted read stays, DONE and SENT. -/
theorem servedWholly_of_uncommitted (hverdict : r.verdict = .none) (beats : List Word) :
    servedWholly p r beats s = (s.setTag p (some { r with position := .done, response := .sent })).respond
      (.data p (dataStatus r) beats.length beats) :=
  releaseIfFinished_of_unfinished (State.tag_setTag_self ..) (by simp [TagRecord.finished_iff, hverdict])

section
variable {taken : List Taken} {u : State} (hagree : NoConflict s r pl) (htaken : s.consumption pl r.size r.count = taken)
  (hleft : consumeAll taken s = u) (hserved : r.count ≤ (takenBeats taken).length)
include hagree htaken hleft hserved

/-- A COMMITTED read that strands serve wholly is answered without an entry (R72). -/
theorem grantGuarded_of_committed (hverdict : r.verdict = .committed) :
    grantGuarded p r pl s = servedWholly p r (takenBeats taken) u := by
  subst htaken hleft
  simp only [grantGuarded, conflicts_eq_nil_iff.2 hagree, ne_eq, not_true_eq_false, if_false, hserved, hverdict, and_self,
    if_true, consumeAll]

/-- An uncommitted one is given the lowest-numbered FREE entry, CAPTURED from the start (R71). -/
theorem grantGuarded_of_uncommitted (hverdict : r.verdict = .none) {e : EntryIx} (hlowest : u.lowestFree = some e) :
    grantGuarded p r pl s = servedWholly p { r with entry := some e } (takenBeats taken)
      (giveEntry e (allocated r pl (takenBeats taken) (.captured p) u) u) := by
  subst htaken hleft
  have uncommitted : ¬r.verdict = .committed := by simp [hverdict]
  rw [consumeAll] at hlowest
  simp only [grantGuarded, conflicts_eq_nil_iff.2 hagree, ne_eq, not_true_eq_false, if_false, uncommitted, and_false,
    hserved, if_true, hlowest]
  rfl

end

/-- The release of a COMMITTED read leaves nothing of its having been ISSUED. -/
theorem servedWholly_granted_of_committed (hverdict : r.verdict = .committed) (beats : List Word) :
    servedWholly p { r with position := .issued } beats (s.granted p r) = releaseRecord p r
      ({ s with pointer := p.initiator + 1 }.respond (.data p (dataStatus r) beats.length beats)) := by
  refine (servedWholly_of_committed (r := { r with position := .issued }) hverdict beats).trans ?_
  exact releaseRecord_setTag (r := r)
    (s := { s with pointer := p.initiator + 1 }.respond (.data p (dataStatus r) beats.length beats)) _

/-- The record of an uncommitted read that is answered within its grant is DONE and SENT with its entry. -/
theorem servedWholly_granted_of_uncommitted (hverdict : r.verdict = .none) (beats : List Word) (e : EntryIx)
    (c : CaptureEntry) :
    servedWholly p { r with position := .issued, entry := some e } beats (giveEntry e c (s.granted p r)) =
      giveEntry e c (({ s with pointer := p.initiator + 1 }.respond (.data p (dataStatus r) beats.length beats)).setTag p
        (some { r with position := .done, response := .sent, entry := some e })) := by
  refine (servedWholly_of_uncommitted (r := { r with position := .issued, entry := some e }) hverdict beats).trans ?_
  exact congrArg (giveEntry e c) (State.setTag_setTag
    ({ s with pointer := p.initiator + 1 }.respond (.data p (dataStatus r) beats.length beats)) p
    (some { r with position := .issued }) _)

end

/-- Settles O34: the records and the pointer play no part in what the strands give, so the grant answers with the beats that
they give to begin with; these are no more than the read asks for. -/
theorem strandsServeWholly : Obligations.StrandsServeWholly := by
  intro p r pl s _ hidle hfirst hlive hplace hguarded hagree hserved beats status u answered
  have hcount : r.count = beats.length := (length_takenBeats_consumption_le s pl r.size r.count).antisymm' hserved
  have hanswered : answered = { u with pointer := p.initiator + 1 }.respond (.data p (dataStatus r) beats.length beats) := by
    rw [← hcount]
    rfl
  have hagree' := (noConflict_granted s p r pl).2 hagree
  have htaken := consumption_granted s p r pl r.size r.count
  have hleft : consumeAll (s.consumption pl r.size r.count) (s.granted p r) = u.granted p r := consumeAll_granted ..
  rw [exec_grant_of_first hidle hfirst hlive hplace, grantRecord_of_guarded hguarded, hanswered]
  refine ⟨fun hverdict => ?_, fun e hverdict hfree hlowest => ?_⟩
  · rw [grantGuarded_of_committed hagree' htaken hleft hserved hverdict,
      servedWholly_granted_of_committed hverdict]
  · have hlowestFree : (u.granted p r).lowestFree = some e := State.lowestFree_eq_some_iff.2 ⟨hfree, hlowest⟩
    rw [grantGuarded_of_uncommitted hagree' htaken hleft hserved hverdict hlowestFree,
      ← consumeAll_allocations s (s.consumption pl r.size r.count)]
    exact congrArg _ (congrArg _ (servedWholly_granted_of_uncommitted hverdict beats e _))

end Sys2Proof.Machine
end

section
/-! SUPPORT. The freeing of a strand: no use of a region goes with it and, as an entry is FREE, no read is stalled after it;
and the statement about the expiry of a strand timer (R103). -/

namespace Sys2Proof.Machine

/-! ## The latch where an entry is FREE (R70, R82, R83) -/

section
variable {s u : State}

/-- A COMMITTED read needs one entry at most, whatever strands stand in its way (R70). -/
theorem State.captureOk_of_committed {r : TagRecord} (hverdict : r.verdict = .committed) (hfree : 0 < s.freeCount)
    (pl : Place) : s.captureOk r pl = true := by
  have enough : Config.committedNeed ≤ s.effectiveFree pl r.size r.count := Nat.le_add_right_of_le hfree
  simp [State.captureOk, hverdict, enough]

/-- Only a committed read can be stalled, so none is while an entry is FREE (R82). -/
theorem State.stalled_eq_false_of_free (hfree : 0 < s.freeCount) (p : Pair) : s.stalled p = false := by
  unfold State.stalled
  split
  · rename_i r _
    split
    · rename_i pl _
      by_cases hverdict : r.verdict = .committed
      · simp [State.captureOk_of_committed hverdict hfree pl]
      · simp [hverdict]
    · rfl
  · rfl

theorem State.freeCount_pos {e : EntryIx} (hfree : s.entries[e] = none) : 0 < s.freeCount :=
  List.countP_pos_iff.2 ⟨e, List.mem_finRange e, by simpa [State.isFree] using hfree⟩

/-- With no read stalled the latch can only clear, as the free count rises (R83). -/
theorem followLatch_of_none_stalled (h : ∀ p, u.stalled p = false) : followLatch s u =
    { u with latch := if s.freeCount < Config.rearmLevel ∧ Config.rearmLevel ≤ u.freeCount then false else u.latch } := by
  have unset : latchSet s u = u := by
    rw [latchSet, u.firstInTurn_eq_none fun p => by rw [h p, Bool.false_and]]
    exact ite_self u
  rw [followLatch, unset, latchClear]
  split <;> rfl

end

/-! ## The freeing of a strand (R103) -/

section
variable {s : State} {e : EntryIx} {c : CaptureEntry}

/-- A strand is no use of its region, so its freeing ends none (R11). -/
theorem State.useCount_setEntry_none_of_strand (hentry : s.entries[e] = some c) (hstrand : c.isStrand = true)
    (r : RegionIx) : (s.setEntry e none).useCount r = s.useCount r := by
  have uses : (s.setEntry e none).entryUses r = s.entryUses r := by
    simp only [State.entryUses, State.length_entriesWhere]
    congr 1
    funext d
    rw [State.entries_setEntry]
    split
    · rename_i same
      simp [same, hentry, hstrand]
    · rfl
  exact congrArg (s.recordUses r + · + s.slotUses r) uses

theorem settled_setEntry_none_of_strand (hs : Settled s) (hentry : s.entries[e] = some c) (hstrand : c.isStrand = true) :
    Settled (s.setEntry e none) := by
  obtain ⟨hready, hdrain⟩ := hs
  refine ⟨hready, ?_⟩
  simpa only [State.drainDue, State.setEntry_apply, State.useCount_setEntry_none_of_strand hentry hstrand] using hdrain

/-- The STRAND_EXPIRED record of a strand (R103). -/
def strandExpiredEvent (c : CaptureEntry) : EventRecord :=
  { kind := .strandExpired, select := c.select, region := c.region, address := addressField c.start
    countA := count16 c.beats.length, countB := count16 (c.size.bytes + if c.mode = .step then 16 else 0) }

theorem exec_strandTimerExpiry_of_due {n : Nat} (hentry : s.entries[e] = some c) (hdue : c.state = .stranded n (some 0)) :
    exec (.strandTimerExpiry e) s = .next (settle s ((s.setEntry e none).raise (strandExpiredEvent c))) := by
  change Host.Outcome.next (expireStrand e s) = _
  simp only [expireStrand, hentry, hdue, strandExpiredEvent]

end

/-- Settles O26: nothing comes to be due by the freeing of a strand, and the entry freed leaves no read stalled. -/
theorem strandTimersExpire : Obligations.StrandTimersExpire := by
  intro e c n s hs hentry hdue u
  have hstrand : c.isStrand = true := by simp [CaptureEntry.isStrand, hdue]
  have hsettled : Settled u :=
    ((AddsIdleRecords.refl _).raise (strandExpiredEvent c)).settled (settled_setEntry_none_of_strand hs hentry hstrand)
  have hfree : 0 < u.freeCount := State.freeCount_pos (s.entries_setEntry_self e none)
  have hexec : exec (.strandTimerExpiry e) s = .next (settle s u) := exec_strandTimerExpiry_of_due hentry hdue
  rw [hexec, settle_of_settled s hsettled, followLatch_of_none_stalled (State.stalled_eq_false_of_free hfree)]
  rfl

end Sys2Proof.Machine
end

section
/-! SUPPORT. The grant of a guarded read in conflict with a strand, and the statement about it (R95). -/

namespace Sys2Proof.Machine

section
variable {s : State} {p : Pair} {r : TagRecord} {pl : Place}

/-- A record that is answered at its end is DONE and SENT, and stays unless it is COMMITTED (R35). -/
theorem releaseIfFinished_answered (a : Response) :
    releaseIfFinished p ((s.setTag p (some { r with position := .done, response := .sent })).respond a) =
      if r.verdict = .committed then releaseRecord p r (s.respond a)
      else (s.respond a).setTag p (some { r with position := .done, response := .sent }) := by
  have hlive : ((s.setTag p (some { r with position := .done, response := .sent })).respond a).tag p =
      some { r with position := .done, response := .sent } := State.tag_setTag_self ..
  split
  · rename_i hverdict
    rw [releaseIfFinished_of_finished hlive (TagRecord.finished_iff.2 ⟨rfl, rfl, hverdict⟩)]
    exact releaseRecord_setTag (s := s.respond a) _
  · rename_i hverdict
    exact releaseIfFinished_of_unfinished hlive (by simp [TagRecord.finished_iff, hverdict])

/-- A strand in conflict ends the grant before anything is taken (R93, R95). -/
theorem grantGuarded_of_conflict (h : s.conflicts pl r.size r.count ≠ []) :
    grantGuarded p r pl s = refuseMismatch p r pl (s.conflicts pl r.size r.count) s := if_pos h

/-- What the pair of a granted record is given next takes the place of the ISSUED record. -/
theorem State.setTag_granted (x : Option TagRecord) :
    (s.granted p r).setTag p x = { s with pointer := p.initiator + 1 }.setTag p x :=
  State.setTag_setTag { s with pointer := p.initiator + 1 } p (some { r with position := .issued }) x

/-- The refusal of a granted read, in the terms of the state before the grant (R95). -/
theorem refuseMismatch_granted (against : List Numbered) :
    refuseMismatch p { r with position := .issued } pl against (s.granted p r) =
      (let u := { s with pointer := p.initiator + 1 }.respond (.error p .mismatch)
       if r.verdict = .committed then releaseRecord p r u
       else u.setTag p (some { r with position := .done, response := .sent })).raise
        (recordEvent .strandMismatch p pl against.length (beatsHeld against)) := by
  rw [refuseMismatch, State.setTag_granted]
  exact congrArg (State.raise · _) (releaseIfFinished_answered _)

end

/-- Settles O32: the strands in conflict are those of the mismatch test, which reads neither the records nor the pointer. -/
theorem mismatchesAreRefused : Obligations.MismatchesAreRefused := by
  intro p r pl s _ hidle hfirst hlive hplace hguarded against u hconflict
  have hrefused : grantGuarded p { r with position := .issued } pl (s.granted p r) =
      refuseMismatch p { r with position := .issued } pl against (s.granted p r) := grantGuarded_of_conflict hconflict
  rw [exec_grant_of_first hidle hfirst hlive hplace, grantRecord_of_guarded hguarded, hrefused, refuseMismatch_granted]
  rfl

end Sys2Proof.Machine
end

section
/-! SUPPORT. The ends of a live access: the reservation that a LOCK-WRITE frees, what a write and a read leave of their record
and entry, and the statement about a beat that fails (R74, R75, R121 to R123, R153 to R155). -/

namespace Sys2Proof.Machine

/-! ## The reservation that names a record as its lock-write record (R138) -/

section
variable {s : State} {k : SlotIx} {v : Reservation}

/-- An initiator holds one reservation at most (R128), so one of a kind that only it can have is the one found. -/
theorem State.slotWhere_eq_some (hlaw : LockLaw s) {f : Reservation → Bool} (hslot : s.slots[k] = some v)
    (hv : f v = true) (hown : ∀ w, f w = true → w.initiator = v.initiator) : s.slotWhere f = some (k, v) := by
  cases hfound : s.slotWhere f with
  | none => exact absurd (State.slotWhere_eq_none_iff.1 hfound k v hslot) (by simp [hv])
  | some x =>
    obtain ⟨l, w⟩ := x
    obtain ⟨hw, hfw⟩ := State.slots_of_slotWhere_eq_some hfound
    have same : l = k := by
      by_contra hne
      exact (hlaw.1 l k hne w hw v hslot).1 (hown w hfw)
    subst same
    rw [Option.some_inj.1 (hw.symm.trans hslot)]

theorem freeWriting_of_named (hlaw : LockLaw s) {p : Pair} (hslot : s.slots[k] = some v)
    (hinitiator : v.initiator = p.initiator) (hwriting : v.state = .writing p.tag) :
    freeWriting p s = s.setSlot k none := by
  have hfound : s.namedByLockWrite p = some (k, v) :=
    State.slotWhere_eq_some hlaw hslot (by simp [hinitiator, hwriting]) (by simp +contextual [hinitiator])
  simp only [freeWriting, hfound]

/-- Freeing a slot names no record that was not named. -/
theorem State.unnamed_setSlot_none {p : Pair} (h : ∀ l : SlotIx, ∀ w ∈ s.slots[l], ¬w.NamesLockRead p) :
    ∀ l : SlotIx, ∀ w ∈ (s.setSlot k none).slots[l], ¬w.NamesLockRead p := by
  intro l w hw
  rw [State.slots_setSlot] at hw
  split at hw
  · simp at hw
  · exact h l w hw

end

/-! ## The record of a live access -/

section
variable {s : State} {a : Access} {p : Pair} {r : TagRecord}

/-- No reservation names a record of another kind than LOCK-READ as its lock-read record (R128). -/
theorem NamesLaw.unnamed (hnames : NamesLaw s) (hrecord : s.tag p = some r) (hkind : r.kind ≠ .lockRead) :
    ∀ k : SlotIx, ∀ v ∈ s.slots[k], ¬v.NamesLockRead p := by
  rintro k v hslot ⟨hinitiator, hread⟩
  have hlockRead := (hnames k v hslot).1 p.tag hread
  rw [hinitiator, hrecord] at hlockRead
  exact hkind (by simpa using hlockRead)

/-- What is written to the target is COMMITTED (R48, R112, R145). -/
theorem AccessLaw.committed_of_write (hlaw : AccessLaw s) (haccess : s.access = some a) (hlive : a.live = true)
    (hkind : a.kind = .write) (hrecord : s.tag a.pair = some r) : r.verdict = .committed := by
  obtain ⟨hissuedCommitted, hopen⟩ := hlaw
  obtain ⟨hfits, -, -⟩ := hopen a haccess
  have hissued : r.position = .issued ∧ r.writes = true := by simpa [hrecord, hkind, fits] using hfits hlive
  exact hissuedCommitted a.pair.initiator a.pair.tag r hrecord hissued.2 hissued.1

/-- An access without a capture entry has no beats from strands (R145). -/
theorem AccessLaw.first_eq_zero (hlaw : AccessLaw s) (haccess : s.access = some a) (hentry : a.entry = none) :
    a.first = 0 := by
  obtain ⟨-, hopen⟩ := hlaw
  obtain ⟨-, -, hfirst⟩ := hopen a haccess
  exact hfirst hentry

/-- The record of a write's access has no capture entry (R67, R145). -/
theorem BindingLaw.entry_eq_none_of_write (hlaw : BindingLaw s) (haccess : s.access = some a) (hlive : a.live = true)
    (hkind : a.kind = .write) (hrecord : s.tag a.pair = some r) : r.entry = none := by
  obtain ⟨-, -, hbound⟩ := hlaw
  obtain ⟨hfilling, hsame⟩ := hbound a haccess
  rw [hsame hlive r hrecord, Option.eq_none_iff_forall_not_mem]
  intro e he
  have hread := (hfilling e he).1
  simp [hkind] at hread

/-- The release of a record without an entry that no reservation names frees its pair alone. -/
theorem releaseRecord_of_bare (hentry : r.entry = none) (h : ∀ k : SlotIx, ∀ v ∈ s.slots[k], ¬v.NamesLockRead p) :
    releaseRecord p r s = s.setTag p none := by
  rw [releaseRecord_of_unnamed h, freeEntryOf, hentry]

end

/-! ## The end of a write (R119, R121, R123, R138) -/

section
variable {s : State} {a : Access} {r : TagRecord} {status : Status}

/-- A record that its end makes DONE and SENT is released if it is COMMITTED (R35). -/
theorem releaseIfFinished_done {p : Pair} (hverdict : r.verdict = .committed) :
    releaseIfFinished p (s.setTag p (some { r with position := .done, response := .sent })) = releaseRecord p r s := by
  have hdone : (s.setTag p (some { r with position := .done, response := .sent })).tag p =
      some { r with position := .done, response := .sent } := State.tag_setTag_self ..
  rw [releaseIfFinished_of_finished hdone (TagRecord.finished_iff.2 ⟨rfl, rfl, hverdict⟩), releaseRecord_setTag]
  rfl

variable (hrecord : s.tag a.pair = some r) (hverdict : r.verdict = .committed)
include hrecord hverdict

/-- What a COMMITTED write leaves of the lock table and answers, before its release. -/
theorem endWrite_of_committed {u w : State} (hfreed : (if r.kind = .lockWrite then freeWriting a.pair s else s) = u)
    (hanswered : (if r.kind = .lockWrite ∧ r.response = .pending then u.respond (.ack a.pair status) else u) = w) :
    endWrite a status s = releaseRecord a.pair r w := by
  subst hfreed hanswered
  simp only [endWrite, hrecord]
  exact releaseIfFinished_done hverdict

variable (hentry : r.entry = none) (hnames : NamesLaw s)
include hentry hnames

/-- A WRITE is released without a response. -/
theorem endWrite_of_write (hkind : r.kind = .write) : endWrite a status s = s.setTag a.pair none := by
  rw [endWrite_of_committed hrecord hverdict (u := s) (w := s) (by simp [hkind]) (by simp [hkind]),
    releaseRecord_of_bare hentry (NamesLaw.unnamed hnames hrecord (by simp [hkind]))]

/-- A LOCK-WRITE frees its reservation, is answered unless its response is SENT, and is released. -/
theorem endWrite_of_lockWrite (hkind : r.kind = .lockWrite) (hlock : LockLaw s) {k : SlotIx} {v : Reservation}
    (hslot : s.slots[k] = some v) (hinitiator : v.initiator = a.pair.initiator)
    (hwriting : v.state = .writing a.pair.tag) :
    endWrite a status s =
      if r.response = .pending then ((s.setTag a.pair none).setSlot k none).respond (.ack a.pair status)
      else (s.setTag a.pair none).setSlot k none := by
  have hunnamed := State.unnamed_setSlot_none (k := k) (NamesLaw.unnamed hnames hrecord (by simp [hkind]))
  have hfreed : (if r.kind = .lockWrite then freeWriting a.pair s else s) = s.setSlot k none := by
    rw [if_pos hkind, freeWriting_of_named hlock hslot hinitiator hwriting]
  split
  · rename_i hpending
    rw [endWrite_of_committed hrecord hverdict hfreed (if_pos ⟨hkind, hpending⟩)]
    exact releaseRecord_of_bare hentry hunnamed
  · rename_i hsent
    rw [endWrite_of_committed hrecord hverdict hfreed (if_neg fun h => hsent h.2)]
    exact releaseRecord_of_bare hentry hunnamed

end

/-! ## The end of a live read (R74, R75, R152, R153) -/

section
variable {s : State} {a : Access} {r : TagRecord} {failure : Option Status}

/-- The answer to a read whose target part is over. -/
abbrev State.readAnswered (s : State) (a : Access) (r : TagRecord) (failure : Option Status) (beats : List Word) : State :=
  s.respond (.data a.pair (failure.getD (dataStatus r)) a.first beats)

variable (hrecord : s.tag a.pair = some r)
include hrecord

/-- A PASS read is answered from its read buffer. -/
theorem endRead_of_no_entry (hentry : a.entry = none) :
    endRead a failure s =
      if r.verdict = .committed then releaseRecord a.pair r (s.readAnswered a r failure a.buffer)
      else (s.readAnswered a r failure a.buffer).setTag a.pair (some { r with position := .done, response := .sent }) := by
  simp only [endRead, hrecord, hentry]
  cases r.verdict with
  | none => rfl
  | committed => rfl

variable {e : EntryIx} {c : CaptureEntry} (hentry : a.entry = some e) (hheld : s.entries[e] = some c)
include hentry hheld

/-- A COMMITTED guarded read is answered from its entry and released with it. -/
theorem endRead_of_committed (hverdict : r.verdict = .committed) :
    endRead a failure s = releaseRecord a.pair r (s.readAnswered a r failure c.beats) := by
  simp only [endRead, hrecord, hentry, hverdict, State.beatsOf, hheld]
  rfl

/-- The entry of an uncommitted guarded read that obtained nothing is FREE. -/
theorem endRead_of_uncommitted_of_empty (hverdict : r.verdict = .none) (hbeats : c.beats = []) :
    endRead a failure s = ((s.readAnswered a r failure []).setTag a.pair
      (some { r with position := .done, response := .sent, entry := none })).setEntry e none := by
  simp only [endRead, hrecord, hentry, hverdict, State.beatsOf, State.respond_entries, hheld, hbeats, if_true]
  rfl

/-- The entry of any other uncommitted guarded read is CAPTURED. -/
theorem endRead_of_uncommitted_of_held (hverdict : r.verdict = .none) (hbeats : c.beats ≠ []) :
    endRead a failure s = ((s.readAnswered a r failure c.beats).setTag a.pair
      (some { r with position := .done, response := .sent })).setEntry e (some { c with state := .captured a.pair }) := by
  simp only [endRead, hrecord, hentry, hverdict, State.beatsOf, State.respond_entries, hheld, hbeats, if_false]
  rfl

end

/-! ## A beat that fails (R121, R122, R153 to R155) -/

/-- The status that a failed beat gives (R153, R154). -/
abbrev failureStatus (timeout : Bool) : Status := if timeout then .targetTimeout else .targetError

section
variable {s : State} {a : Access}

/-- An error, whatever the level of ready, and a due wait timer fail the beat in flight; the cause is 1 for the timer. -/
theorem exec_of_failed_beat {f : Flight} {cause : Nat} {c : Instr} (haccess : s.access = some a)
    (hflight : a.flight = some f)
    (hcause : (cause = 0 ∧ ∃ ready : Bool, c = .targetError ready) ∨ (cause = 1 ∧ c = .waitTimerExpiry ∧ f.timer = 0)) :
    ∃ timeout : Bool, cause = timeout.toNat ∧ exec c s = .next (settle s (beatFails a f.beat timeout s)) := by
  obtain ⟨hzero, ready, rfl⟩ | ⟨hone, rfl, hdue⟩ := hcause
  · refine ⟨false, hzero, ?_⟩
    change execTargetError ready s = _
    simp only [execTargetError, haccess, hflight]
  · refine ⟨true, hone, ?_⟩
    change execWaitTimerExpiry s = _
    simp only [execWaitTimerExpiry, expireWait, haccess, hflight, hdue, if_true]

theorem beatFails_of_write (hkind : a.kind = .write) (b : Nat) (timeout : Bool) :
    beatFails a b timeout s = (endWrite a (failureStatus timeout) (s.setAccess none)).raise
      (recordEvent .writeFault a.pair a.place b timeout.toNat) := by
  simp only [beatFails, hkind]

theorem beatFails_of_live_read (hkind : a.kind = .read) (hlive : a.live = true) (b : Nat) (timeout : Bool) :
    beatFails a b timeout s = (endRead a (some (failureStatus timeout)) (s.setAccess none)).raise
      (recordEvent .readFault a.pair a.place (b - a.first) timeout.toNat) := by
  simp only [beatFails, hkind, hlive, if_true]

end

/-- Settles O40: the failed beat closes the access, and what is left of its record is the end of a write, whose record the
laws make COMMITTED and bare, or of a live read. -/
theorem failedBeatsEndTheAccess : Obligations.FailedBeatsEndTheAccess := by
  rintro a f r cause c s ⟨hlock, haccessLaw, hnames, -, hbinding⟩ haccess hflight hlive hrecord hcause
  obtain ⟨timeout, rfl, hexec⟩ := exec_of_failed_beat haccess hflight hcause
  intro status event done answered gone
  have hstatus : status = failureStatus timeout := by cases timeout <;> rfl
  clear_value status
  subst hstatus
  have hidle : (s.setAccess none).tag a.pair = some r := hrecord
  refine ⟨fun hkind hwrite => ?_, fun k v hkind hlockWrite hslot hinitiator hwriting => ?_, fun hkind hentry => ?_,
    fun e v hkind hentry hheld => ⟨fun hverdict => ?_, fun hverdict hbeats => ?_, fun hverdict hbeats => ?_⟩⟩
  · have hverdict := AccessLaw.committed_of_write haccessLaw haccess hlive hkind hrecord
    have hbare := BindingLaw.entry_eq_none_of_write hbinding haccess hlive hkind hrecord
    rw [hexec, beatFails_of_write hkind, endWrite_of_write hidle hverdict hbare hnames hwrite]
    rfl
  · have hverdict := AccessLaw.committed_of_write haccessLaw haccess hlive hkind hrecord
    have hbare := BindingLaw.entry_eq_none_of_write hbinding haccess hlive hkind hrecord
    rw [hexec, beatFails_of_write hkind,
      endWrite_of_lockWrite hidle hverdict hbare hnames hlockWrite hlock hslot hinitiator hwriting]
    rfl
  · have hcount : f.beat - a.first = f.beat := by
      rw [AccessLaw.first_eq_zero haccessLaw haccess hentry, Nat.sub_zero]
    rw [hexec, beatFails_of_live_read hkind hlive, endRead_of_no_entry hidle hentry, hcount]
    rfl
  · rw [hexec, beatFails_of_live_read hkind hlive, endRead_of_committed hidle hentry hheld hverdict]
    rfl
  · rw [hexec, beatFails_of_live_read hkind hlive, endRead_of_uncommitted_of_empty hidle hentry hheld hverdict hbeats]
    rfl
  · rw [hexec, beatFails_of_live_read hkind hlive, endRead_of_uncommitted_of_held hidle hentry hheld hverdict hbeats]
    rfl

end Sys2Proof.Machine
end

section
/-! SUPPORT. The request that is taken: its record, and the reservation of a LOCK-READ, only add to what stands in the way of
an UNLOCK and of a drain, so that nothing comes to be due; and the statement about the four checks of a LOCK-READ (R131). -/

namespace Sys2Proof.Machine

/-! ## States that have more in use than another -/

/-- `u` has the apply state and capture entries of `s`, and its records and reservations, but for records other than UNLOCKs
on pairs free in `s` and for reservations in slots free in `s`. -/
structure AddsUses (s u : State) : Prop where
  apply : u.apply = s.apply
  entries : u.entries = s.entries
  tags : ∀ p, u.tag p = s.tag p ∨ s.tag p = none ∧ ∃ w, u.tag p = some w ∧ w.kind ≠ .unlock
  slots : ∀ k : SlotIx, u.slots[k] = s.slots[k] ∨ s.slots[k] = none

namespace AddsUses

variable {s u : State} (h : AddsUses s u)
include h

/-- What a record of `s` meets, the same record of `u` meets. -/
theorem tag_any {f : TagRecord → Bool} {p : Pair} (hp : (s.tag p).any f = true) : (u.tag p).any f = true := by
  obtain same | ⟨hfree, -⟩ := h.tags p
  · rwa [same]
  · simp [hfree] at hp

theorem slot_any {f : Reservation → Bool} {k : SlotIx} (hk : (s.slots[k]).any f = true) : (u.slots[k]).any f = true := by
  obtain same | hfree := h.slots k
  · rwa [same]
  · simp [hfree] at hk

theorem olderWaiting {p : Pair} {r : TagRecord} (hp : s.olderWaiting p r = true) : u.olderWaiting p r = true := by
  obtain ⟨o, ho, hwaits⟩ := List.any_eq_true.1 hp
  exact List.any_eq_true.2 ⟨o, ho, h.tag_any hwaits⟩

/-- The UNLOCKs are those of `s`, and what was in the way of one still is (R64). -/
theorem readyUnlock {i : Initiator} (hi : s.readyUnlock i = none) : u.readyUnlock i = none := by
  rw [State.readyUnlock, List.find?_eq_none] at hi ⊢
  intro p hp hready
  obtain same | ⟨-, w, hw, hkind⟩ := h.tags p
  · rw [same, Option.any_eq_true] at hready
    obtain ⟨r, hr, hready⟩ := hready
    simp only [Bool.and_eq_true, decide_eq_true_eq, Bool.not_eq_true'] at hready
    obtain ⟨⟨⟨hkind, hverdict⟩, hwaiting⟩, hnone⟩ := hready
    have older : s.olderWaiting p r = true := by simpa [hr, hkind, hverdict, hwaiting] using hi p hp
    exact Bool.false_ne_true (hnone.symm.trans (h.olderWaiting older))
  · simp [hw, hkind] at hready

/-- No use of a region is gone (R11). -/
theorem useCount (r : RegionIx) : s.useCount r ≤ u.useCount r := by
  have records : s.recordUses r ≤ u.recordUses r := List.countP_mono_left fun _ _ => h.tag_any
  have entries : s.entryUses r = u.entryUses r := by simp only [State.entryUses, State.entriesWhere, h.entries]
  have slots : s.slotUses r ≤ u.slotUses r := List.countP_mono_left fun _ _ => h.slot_any
  simp only [State.useCount]
  omega

theorem drainDue (hs : s.drainDue = false) : u.drainDue = false := by
  unfold State.drainDue at hs ⊢
  rw [h.apply]
  split at hs
  · rfl
  · rename_i r n _
    have more := h.useCount r
    rw [decide_eq_false_iff_not] at hs ⊢
    omega

theorem settled (hs : Settled s) : Settled u := by
  obtain ⟨hready, hdrain⟩ := hs
  exact ⟨fun i => h.readyUnlock (hready i), h.drainDue hdrain⟩

end AddsUses

/-! ## The lock table as the checks read it (R128) -/

section
variable {s : State} {i : Initiator}

theorem State.isSome_slotWhere_iff {f : Reservation → Bool} :
    (s.slotWhere f).isSome = true ↔ ∃ k : SlotIx, ∃ v ∈ s.slots[k], f v = true := by
  rw [Option.isSome_iff_ne_none, Ne, State.slotWhere_eq_none_iff]
  push Not
  simp only [Bool.not_eq_false]

theorem State.isSome_held_iff :
    (s.held i).isSome = true ↔ ∃ k : SlotIx, ∃ v ∈ s.slots[k], v.initiator = i := by
  simp [State.held, State.isSome_slotWhere_iff]

theorem State.granuleTaken_iff {select : Select} {granule : TAddr} : s.granuleTaken i select granule = true ↔
    ∃ k : SlotIx, ∃ v ∈ s.slots[k], v.initiator ≠ i ∧ v.select = select ∧ v.granule = granule := by
  simp [State.granuleTaken, State.isSome_slotWhere_iff, and_assoc]

theorem State.freeSlot_eq_none_iff : s.freeSlot = none ↔ ∀ k : SlotIx, s.slots[k] ≠ none := by
  simp [State.freeSlot]

theorem State.freeSlot_eq_some_iff {k : SlotIx} :
    s.freeSlot = some k ↔ s.slots[k] = none ∧ ∀ j : SlotIx, j < k → s.slots[j] ≠ none := by
  rw [State.freeSlot, ← Fin.find?_eq_find?_finRange, Fin.find?_eq_some_iff]
  simp

end

/-! ## The four checks of a LOCK-READ (R131) -/

section
variable {q : Request} {s : State} {r : RegionIx} {c : RegionClass}

/-- A LOCK-READ that passes steps 1 to 5 comes to its lock checks with the place that its record would copy (R6). -/
theorem accept_lockRead_of_reachesLocks (h : ReachesLocks .lockRead q s r c) : accept .lockRead q s =
    lockReadCheck q s.regions[r].lock s.regions[r].lockLimit
      (copiedPlace s.regions[r] r c (some s.regions[r].lockLimit) q.address) s := by
  obtain ⟨hreach, hmatch, halign, hinside, hopen⟩ := h
  have aligned : ¬q.address.toNat % (requestSize q).bytes ≠ 0 := not_not.2 halign
  have whole : ¬splits s.regions[r] q = true := mt (splits_iff _ _).1 hinside
  have undrained : ¬s.drains r = true := by simp [hopen]
  rw [accept_of_reachesAddress (by simp) hreach]
  simp only [addressed, hmatch, if_neg aligned, if_neg whole, if_neg undrained]
  rfl

variable {permitted : Bool} {limit : BitVec 10} {pl : Place}

/-- The first two checks: the region permits locks, and the initiator holds none. -/
theorem lockReadCheck_of_denied (h : permitted = false ∨ ∃ k : SlotIx, ∃ v ∈ s.slots[k], v.initiator = q.initiator) :
    lockReadCheck q permitted limit pl s = s.refusedWith .lockRead q .lockDenied := by
  rw [← State.isSome_held_iff] at h
  rw [lockReadCheck, refuse_eq_refusedWith]
  obtain hforbidden | hheld := h
  · exact if_pos hforbidden
  · rw [if_pos hheld, ite_self]

/-- What the taking of a LOCK-READ leaves: its record, and its reservation in the slot. -/
def State.lockTaken (s : State) (q : Request) (pl : Place) (limit : BitVec 10) (k : SlotIx) : State :=
  ((s.joinedBy q { recordWith .lockRead q (some pl) s.acceptance[q.initiator] with
      timer := startTimer q pl.verdictLimit }).setSlot k
    (some { initiator := q.initiator, select := pl.select, granule := granuleOf pl.start, region := pl.region
            state := .reserved limit.toNat, lockRead := some q.tag })).setLockLost q.initiator false

/-- The lock table is changed before the record joins, or after it, to the same effect. -/
theorem take_lockRead_eq_lockTaken (k : SlotIx) :
    take .lockRead q (some pl) ((s.setSlot k (some
      { initiator := q.initiator, select := pl.select, granule := granuleOf pl.start, region := pl.region
        state := .reserved limit.toNat, lockRead := some q.tag })).setLockLost q.initiator false) =
      s.lockTaken q pl limit k := rfl

section
variable (hpermitted : permitted = true) (hheld : ¬∃ k : SlotIx, ∃ v ∈ s.slots[k], v.initiator = q.initiator)
include hpermitted hheld

/-- The third check: no other initiator holds the granule. -/
theorem lockReadCheck_of_granuleTaken (htaken : s.granuleTaken q.initiator pl.select (granuleOf pl.start) = true) :
    lockReadCheck q permitted limit pl s = s.respond (.retry q.pair .reserved) := by
  rw [← State.isSome_held_iff] at hheld
  simp only [lockReadCheck, hpermitted, Bool.true_eq_false, Bool.false_eq_true, if_false, hheld, htaken, if_true]

variable (hopen : ¬s.granuleTaken q.initiator pl.select (granuleOf pl.start) = true)
include hopen

/-- The fourth check: a slot is free. -/
theorem lockReadCheck_of_full (hfull : s.freeSlot = none) :
    lockReadCheck q permitted limit pl s = s.respond (.retry q.pair .locksFull) := by
  rw [← State.isSome_held_iff] at hheld
  simp only [lockReadCheck, hpermitted, Bool.true_eq_false, Bool.false_eq_true, if_false, hheld, hopen, hfull]

/-- All four checks passed, the lowest free slot is taken. -/
theorem lockReadCheck_of_freeSlot {k : SlotIx} (hslot : s.freeSlot = some k) :
    lockReadCheck q permitted limit pl s = s.lockTaken q pl limit k := by
  rw [← State.isSome_held_iff] at hheld
  simp only [lockReadCheck, hpermitted, Bool.true_eq_false, Bool.false_eq_true, if_false, hheld, hopen, hslot,
    take_lockRead_eq_lockTaken]

end

/-- The record of a LOCK-READ that is taken is no UNLOCK, and its slot was free. -/
theorem addsUses_lockTaken {k : SlotIx} (hfree : s.tag q.pair = none) (hslot : s.slots[k] = none) :
    AddsUses s (s.lockTaken q pl limit k) where
  apply := rfl
  entries := rfl
  tags p := by
    simp only [State.lockTaken, State.tag_setLockLost, State.tag_setSlot, State.tag_joinedBy]
    by_cases hp : p = q.pair
    · exact .inr ⟨hp ▸ hfree, _, if_pos hp, by simp [recordWith]⟩
    · exact .inl (if_neg hp)
  slots l := by
    simp only [State.lockTaken, State.setLockLost_slots, State.slots_setSlot]
    by_cases hl : l = k
    · exact .inr (hl ▸ hslot)
    · exact .inl (if_neg hl)

end

/-- Settles O13: a refusal or a RETRY leaves an idle record at most, and a taking adds uses alone, so that the latch is all
that can follow it. -/
theorem lockReadsReserve : Obligations.LockReadsReserve := by
  intro q s r c hs hreach pl granule holds other
  have haccept := accept_lockRead_of_reachesLocks hreach
  obtain ⟨⟨-, hfree, -⟩, -⟩ := hreach
  have decides {u : State} (hu : accept .lockRead q s = u) (hidle : AddsIdleRecords s u) :
      exec (.lockRead q) s = .next u := exec_of_accept (kind := .lockRead) hs hu hidle
  have retried (reason : Reason) : AddsIdleRecords s (s.respond (.retry q.pair reason)) :=
    (AddsIdleRecords.refl s).respond _
  have taken : s.granuleTaken q.initiator pl.select (granuleOf pl.start) = true ↔ other := State.granuleTaken_iff
  refine ⟨fun hdenied => ?_, fun hpermitted hholds => ⟨fun hother => ?_, fun hother hfull => ?_,
    fun k hother hslot hlowest => ?_⟩⟩
  · exact decides (haccept.trans (lockReadCheck_of_denied hdenied)) (addsIdleRecords_refusedWith _ _ _ hfree)
  · exact decides (haccept.trans (lockReadCheck_of_granuleTaken hpermitted hholds (taken.2 hother))) (retried _)
  · exact decides (haccept.trans (lockReadCheck_of_full hpermitted hholds (mt taken.1 hother)
      (State.freeSlot_eq_none_iff.2 hfull))) (retried _)
  · have htaken : accept .lockRead q s = s.lockTaken q pl s.regions[r].lockLimit k :=
      haccept.trans (lockReadCheck_of_freeSlot hpermitted hholds (mt taken.1 hother)
        (State.freeSlot_eq_some_iff.2 ⟨hslot, hlowest⟩))
    have hsettled : Settled (s.lockTaken q pl s.regions[r].lockLimit k) := (addsUses_lockTaken hfree hslot).settled hs
    calc exec (.lockRead q) s
        = .next (settle s (accept .lockRead q s)) := exec_requestOf .lockRead q s
      _ = .next (followLatch s (s.lockTaken q pl s.regions[r].lockLimit k)) := by
        rw [htaken, settle_of_settled s hsettled]

end Sys2Proof.Machine
end

section
/-! SUPPORT. What breaking a reservation leaves, what a command of the management port does in a frame that listens, and the
statement about due lock timers and BREAK LOCK (R135, R142). -/

namespace Sys2Proof.Machine

section
variable {s : State} {k : SlotIx} {v : Reservation} {cause : Nat}

/-! ## The breaking of a reservation (R135) -/

/-- The reservation's slot is free and its holder's lock-lost flag is set. -/
def State.lockFreed (s : State) (k : SlotIx) (i : Initiator) : State := (s.setSlot k none).setLockLost i true

/-- The LOCK_BROKEN record of a reservation, with how many records were marked. -/
def lockBrokenEvent (v : Reservation) (cause marked : Nat) : EventRecord :=
  { kind := .lockBroken, initiator := v.initiator, select := v.select, tag := tagField (v.lockRead.getD 0)
    region := v.region, address := addressField v.granule, countA := count16 cause, countB := count16 marked }

theorem breakReservation_of_no_record (hread : v.lockRead = none) :
    breakReservation k v cause s = (s.lockFreed k v.initiator).raise (lockBrokenEvent v cause 0) := by
  simp only [breakReservation, hread, lockBrokenEvent]
  rfl

theorem breakReservation_of_record {t : Tag} {w : TagRecord} (hread : v.lockRead = some t)
    (hlive : s.tag ⟨v.initiator, t⟩ = some w) : breakReservation k v cause s =
      ((s.lockFreed k v.initiator).setTag ⟨v.initiator, t⟩ (some { w with mark := true })).raise
        (lockBrokenEvent v cause 1) := by
  simp only [breakReservation, hread, State.tag_setLockLost, State.tag_setSlot, hlive, lockBrokenEvent]
  rfl

/-- The lock-read record that a reservation names is live (R128). -/
theorem NamesLaw.lockRead_live (hlaw : NamesLaw s) (hslot : s.slots[k] = some v) {t : Tag} (hread : v.lockRead = some t) :
    ∃ w, s.tag ⟨v.initiator, t⟩ = some w := by
  obtain ⟨hlockRead, -⟩ := hlaw k v hslot
  obtain ⟨w, hw, -⟩ := (Option.any_eq_true _ _).1 (hlockRead t hread)
  exact ⟨w, hw⟩

theorem exec_lockTimerExpiry_of_due (hslot : s.slots[k] = some v) (hdue : v.state = .reserved 0) :
    exec (.lockTimerExpiry k) s = .next (settle s (breakReservation k v 0 s)) := by
  change Host.Outcome.next (expireLock k s) = _
  simp only [expireLock, hslot, hdue, if_true]

/-! ## A command in a frame that listens (R162) -/

theorem takeCommand_of_listens (hlistens : s.listens = true) (code : Byte) (params : List Byte) (act : State → Reply) :
    takeCommand code params act s = (act s).state.answered code params (act s).bytes := by
  unfold State.listens at hlistens
  split at hlistens
  · cases hlistens
  · cases hlistens
  · rename_i f hport
    have hawaits : f.awaits (code :: params) = true := by simp [Frame.awaits, of_decide_eq_true hlistens]
    simp only [takeCommand, hport, hawaits, if_true]
    rfl

/-! ## BREAK LOCK (R142) -/

section
variable (hlaw : LockLaw s) (hslot : s.slots[k] = some v) {i : Byte} (hi : i.toNat = v.initiator.val)
include hlaw hslot hi

/-- The byte names the holder, and the reservation that it holds is the one found (R128). -/
theorem State.held_of_named : ∃ h : i.toNat < 8, s.held ⟨i.toNat, h⟩ = some (k, v) := by
  have named : (⟨i.toNat, hi ▸ v.initiator.isLt⟩ : Initiator) = v.initiator := Fin.ext hi
  refine ⟨hi ▸ v.initiator.isLt, ?_⟩
  rw [named]
  exact State.slotWhere_eq_some hlaw hslot (by simp) (by simp)

theorem breakCommand_of_reserved {n : Nat} (hstate : v.state = .reserved n) :
    breakCommand i s = ⟨.ok, [], settle s (breakReservation k v 1 s)⟩ := by
  obtain ⟨hlt, held⟩ := State.held_of_named hlaw hslot hi
  simp only [breakCommand, hlt, dif_pos, held, hstate]

theorem breakCommand_of_writing {t : Tag} (hstate : v.state = .writing t) : breakCommand i s = ⟨.busy, [], s⟩ := by
  obtain ⟨hlt, held⟩ := State.held_of_named hlaw hslot hi
  simp only [breakCommand, hlt, dif_pos, held, hstate]

end

theorem breakCommand_of_none_held {i : Byte} (hnone : ∀ k : SlotIx, ∀ v ∈ s.slots[k], v.initiator.val ≠ i.toNat)
    (hi : i.toNat < 8) : breakCommand i s = ⟨.ok, [], s⟩ := by
  have held : s.held ⟨i.toNat, hi⟩ = none :=
    State.slotWhere_eq_none_iff.2 fun k v hslot => by simpa [Fin.ext_iff] using hnone k v hslot
  simp only [breakCommand, hi, dif_pos, held]

theorem breakCommand_of_no_initiator {i : Byte} (hi : 8 ≤ i.toNat) : breakCommand i s = ⟨.invalid, [], s⟩ :=
  dif_neg (Nat.not_lt.2 hi)

/-- BREAK LOCK in a frame that listens is answered with what it replies, once the image has been read (R164). -/
theorem exec_breakLock_of_listens (hlistens : s.listens = true) (hloaded : s.operating ≠ .loading) {i : Byte} {w : Reply}
    (hreply : breakCommand i s = w) : exec (.breakLock i) s = .next (w.state.answered 0x31 [i] w.bytes) := by
  have loaded : unlessLoading (breakCommand i) s = w := (if_neg hloaded).trans hreply
  change Host.Outcome.next (takeCommand 0x31 [i] (unlessLoading (breakCommand i)) s) = _
  rw [takeCommand_of_listens hlistens, loaded]

end

/-- Settles O27: both causes break the reservation by `breakReservation`, whose lock-read record is live by the names law; by
the lock law BREAK LOCK finds the one reservation of the initiator. -/
theorem reservationsAreBroken : Obligations.ReservationsAreBroken := by
  rintro s ⟨hlock, -, hnames, -⟩
  refine ⟨?_, fun hlistens hloaded i => ⟨?_, ?_⟩⟩
  · intro k v hslot freed event broken
    have hbroken (cause : Nat) : broken cause (breakReservation k v cause s) := by
      refine ⟨fun hread => breakReservation_of_no_record hread, fun t hread => ?_⟩
      obtain ⟨w, hw⟩ := NamesLaw.lockRead_live hnames hslot hread
      exact ⟨w, hw, breakReservation_of_record hread hw⟩
    refine ⟨fun hdue => ?_, fun hlistens hloaded i hi => ⟨fun n hstate => ?_, fun t hstate => ?_⟩⟩
    · exact ⟨_, hbroken 0, exec_lockTimerExpiry_of_due hslot hdue⟩
    · exact ⟨_, hbroken 1, exec_breakLock_of_listens hlistens hloaded (breakCommand_of_reserved hlock hslot hi hstate)⟩
    · exact exec_breakLock_of_listens hlistens hloaded (breakCommand_of_writing hlock hslot hi hstate)
  · exact fun hi => exec_breakLock_of_listens hlistens hloaded (breakCommand_of_no_initiator hi)
  · exact fun hnone hi => exec_breakLock_of_listens hlistens hloaded (breakCommand_of_none_held hnone hi)

end Sys2Proof.Machine
end

section
/-! SUPPORT. The bytes of a record's fields, the layout of an event record, what the event queue's commands reply, and the
statement about them. -/

namespace Sys2Proof.Machine

/-! ## Fields of a record (R165) -/

/-- The bytes of a word in a little-endian field are cut out of the word. -/
theorem leBytes_toNat {w : Nat} (k : Nat) (x : BitVec w) :
    leBytes k x.toNat = (List.range k).map fun j => (x >>> (8 * j)).setWidth 8 :=
  List.map_congr_left fun _ _ => BitVec.eq_of_toNat_eq (by simp)

/-- A field of one byte is that byte. -/
theorem littleAt_one (bs : List Byte) (k : Nat) : littleAt bs k 1 = (bs.getD k 0).toNat := by
  simp [littleAt]

/-- The first `n` bytes of a number, weighted, are the number modulo `256 ^ n`. -/
theorem sum_weighted_bytes (v n : Nat) :
    ((List.range n).map fun j => (BitVec.ofNat 8 (v >>> (8 * j))).toNat * 256 ^ j).sum = v % 256 ^ n := by
  induction n with
  | zero => simp [Nat.mod_one]
  | succ n ih =>
    have byte_value : (BitVec.ofNat 8 (v >>> (8 * n))).toNat = v / 256 ^ n % 256 := by
      rw [BitVec.toNat_ofNat, Nat.shiftRight_eq_div_pow, Nat.pow_mul]
    rw [List.range_succ, List.map_append, List.sum_append, ih, List.map_singleton, List.sum_singleton, byte_value,
      Nat.mod_pow_succ, Nat.mul_comm]

/-- Where a record goes on with the bytes of a number, its field there is that number. -/
theorem littleAt_of_drop {bs rest : List Byte} {k n v : Nat} (hdrop : bs.drop k = leBytes n v ++ rest) (hv : v < 256 ^ n) :
    littleAt bs k n = v := by
  have byte_of_field (j : Nat) (hj : j ∈ List.range n) : bs.getD (k + j) 0 = BitVec.ofNat 8 (v >>> (8 * j)) := by
    rw [List.getD_eq_getElem?_getD, ← List.getElem?_drop, hdrop,
      List.getElem?_append_left (by simpa [leBytes] using hj)]
    simp [leBytes, List.mem_range.1 hj]
  rw [littleAt, List.map_congr_left fun j hj => by rw [byte_of_field j hj], sum_weighted_bytes, Nat.mod_eq_of_lt hv]

/-! ## The layout of an event record (R173) -/

theorem EventKind.number_pos (kind : EventKind) : 1 ≤ kind.number := by
  cases kind <;> decide

theorem EventKind.number_lt (kind : EventKind) : kind.number < 256 := by
  cases kind <;> decide

theorem eventKinds_number (kind : EventKind) : eventKinds[kind.number - 1]? = some kind := by
  cases kind <;> rfl

theorem eventLayout_eventBytes (e : EventRecord) : EventLayout e (eventBytes e) := by
  have hkind : littleAt (eventBytes e) 0 1 = e.kind.number :=
    (littleAt_one _ _).trans (Nat.mod_eq_of_lt e.kind.number_lt)
  have hplace : ((eventBytes e).getD 1 0).toNat = e.initiator.val + 16 * e.select.val :=
    Nat.mod_eq_of_lt (by omega)
  have hregion : littleAt (eventBytes e) 3 1 = e.region.val :=
    (littleAt_one _ _).trans (Nat.mod_eq_of_lt (by omega))
  refine ⟨rfl, ?_, ?_, ?_, ?_, littleAt_one _ _, hregion, ?_, ?_, ?_, ?_⟩
  · rw [hkind, eventKinds_number]
  · exact hkind ▸ e.kind.number_pos
  · rw [bitsAt, hplace]; omega
  · rw [bitsAt, hplace]; omega
  · exact littleAt_of_drop rfl e.timestamp.isLt
  · exact littleAt_of_drop rfl e.address.isLt
  · exact littleAt_of_drop rfl e.countA.isLt
  · exact littleAt_of_drop (List.append_nil _).symm e.countB.isLt

/-! ## The event queue's commands in a frame that listens (R174 to R176) -/

section
variable {s : State}

theorem takeOldest_of_empty (hempty : s.events = []) : takeOldest s = ⟨.empty, [], s⟩ := by
  simp only [takeOldest, hempty]

/-- The queue byte is the number of records left with the overflow flag in bit 7. -/
theorem takeOldest_of_cons {e : EventRecord} {rest : List EventRecord} (hevents : s.events = e :: rest) :
    takeOldest s = ⟨.ok, eventBytes e ++ [BitVec.ofNat 8 (rest.length + if s.overflow then 128 else 0)],
      { s with events := rest }⟩ := by
  have flag : 128 * s.overflow.toNat = if s.overflow then 128 else 0 := by cases s.overflow <;> rfl
  simp only [takeOldest, hevents, flag, byte]

/-- The 17 enables of a mask in three bytes: the last holds the one enable of bit 16. -/
theorem leBytes_enables (m : BitVec 24) : leBytes 3 (m.setWidth 17).toNat =
    [m.setWidth 8, (m >>> 8).setWidth 8, ((m >>> 16) &&& 1).setWidth 8] := by
  have low : (m.setWidth 17).setWidth 8 = m.setWidth 8 := by bv_omega
  have middle : (m.setWidth 17 >>> 8).setWidth 8 = (m >>> 8).setWidth 8 := by bv_omega
  have high : (m.setWidth 17 >>> 16).setWidth 8 = ((m >>> 16) &&& 1).setWidth 8 := by
    apply BitVec.eq_of_toNat_eq
    simp only [BitVec.toNat_setWidth, BitVec.toNat_ushiftRight, BitVec.toNat_and, BitVec.reduceToNat,
      Nat.shiftRight_eq_div_pow, Nat.and_one_is_mod]
    omega
  rw [leBytes_toNat, ← low, ← middle, ← high]
  rfl

/-- Once the image has been read, a command in a frame that listens is answered with what it replies (R162, R164). -/
theorem takeCommand_unlessLoading (hlistens : s.listens = true) (hloaded : s.operating ≠ .loading) {act : State → Reply}
    {w : Reply} (hreply : act s = w) (code : Byte) (params : List Byte) :
    takeCommand code params (unlessLoading act) s = w.state.answered code params w.bytes := by
  rw [takeCommand_of_listens hlistens, unlessLoading, if_neg hloaded, hreply]

end

/-- Settles O46: in a frame that listens each command is answered with its reply, and the reply is read off the queue. -/
theorem eventCommandsAct : Obligations.EventCommandsAct := by
  intro s hlistens hloaded
  refine ⟨fun hempty => ?_, fun e rest hevents _ => ⟨?_, eventLayout_eventBytes e⟩, ?_, fun m => ?_⟩
  · exact congrArg Host.Outcome.next (takeCommand_unlessLoading hlistens hloaded (takeOldest_of_empty hempty) 0x02 [])
  · exact congrArg Host.Outcome.next (takeCommand_unlessLoading hlistens hloaded (takeOldest_of_cons hevents) 0x02 [])
  · exact congrArg Host.Outcome.next (takeCommand_unlessLoading hlistens hloaded rfl 0x04 [])
  · change Host.Outcome.next (takeCommand 0x03 (leBytes 3 m.toNat) _ s) = _
    rw [takeCommand_unlessLoading hlistens hloaded rfl, leBytes_enables, leBytes_toNat]
    rfl

end Sys2Proof.Machine
end

section
/-! SUPPORT. Checks 5 and 6 of the configuration image, the region table its records give, and the statement about the end of
loading. -/

namespace Sys2Proof.Machine

/-! ## Check 5, the half-word sum (R182) -/

/-- The half-word at byte `2 * k` of the image, read little-endian. -/
def halfWordAt (image : List Byte) (k : Nat) : Nat :=
  (image.getD (2 * k) 0).toNat + 256 * (image.getD (2 * k + 1) 0).toNat

theorem halfWordSum_of_even (image : List Byte) (heven : image.length % 2 = 0) :
    halfWordSum image = ((List.range (image.length / 2)).map (halfWordAt image)).sum := by
  induction image using halfWordSum.induct with
  | case1 => rfl
  | case2 a => simp at heven
  | case3 a b rest ih =>
    have rest_even : rest.length % 2 = 0 := by
      rw [List.length_cons, List.length_cons] at heven
      omega
    have halves : (a :: b :: rest).length / 2 = rest.length / 2 + 1 := by
      rw [List.length_cons, List.length_cons]
      omega
    have later (k : Nat) : halfWordAt (a :: b :: rest) (k + 1) = halfWordAt rest k := rfl
    have first : halfWordAt (a :: b :: rest) 0 = a.toNat + 256 * b.toNat := rfl
    simp only [halfWordSum, ih rest_even, halves, List.range_succ_eq_map, List.map_cons, List.map_map, List.sum_cons, first,
      Function.comp_def, later]

/-! ## Check 6, the records in their order (R183) -/

section
variable (body : List Byte)

/-- The region index that record `k` names. -/
def imageIndex (k : Nat) : RegionIx := recordIndex (imageRecord body k)

/-- Record `k` is valid, and no earlier record names its index. -/
def RecordPasses (k : Nat) : Prop :=
  (unpackRegion (imageRecord body k)).valid = true ∧ ∀ j : Nat, j < k → imageIndex body j ≠ imageIndex body k

/-- The indices that the first `k` records name, the latest first. -/
def namedBefore (k : Nat) : List RegionIx := ((List.range k).map (imageIndex body)).reverse

/-- Check 6 on the `m` records from record `k` on. -/
def checkFrom (k m : Nat) : Option ImageFailure :=
  checkRecords k (namedBefore body k) ((List.range' k m).map (imageRecord body))

theorem namedBefore_succ (k : Nat) : namedBefore body (k + 1) = imageIndex body k :: namedBefore body k := by
  simp [namedBefore, List.range_succ]

variable {body} {k : Nat}

theorem mem_namedBefore {r : RegionIx} : r ∈ namedBefore body k ↔ ∃ j < k, imageIndex body j = r := by
  simp [namedBefore]

theorem checkFrom_of_passes (hpass : RecordPasses body k) (m : Nat) : checkFrom body k (m + 1) = checkFrom body (k + 1) m := by
  obtain ⟨hvalid, hnew⟩ := hpass
  have unnamed : recordIndex (imageRecord body k) ∉ namedBefore body k := fun hmem =>
    have ⟨j, hj, hsame⟩ := mem_namedBefore.1 hmem
    hnew j hj hsame
  simp [checkFrom, List.range'_succ, checkRecords, hvalid, unnamed, namedBefore_succ, imageIndex]

theorem checkFrom_of_invalid (hinvalid : (unpackRegion (imageRecord body k)).valid = false) (m : Nat) :
    checkFrom body k (m + 1) = some (.corrupt 5 (12 + 16 * k) (imageIndex body k)) := by
  simp [checkFrom, List.range'_succ, checkRecords, hinvalid, imageIndex]

theorem checkFrom_of_repeated (hvalid : (unpackRegion (imageRecord body k)).valid = true) (hfault : ¬RecordPasses body k)
    (m : Nat) : checkFrom body k (m + 1) = some (.corrupt 6 (12 + 16 * k) (imageIndex body k)) := by
  have named : recordIndex (imageRecord body k) ∈ namedBefore body k := by
    rw [mem_namedBefore]
    by_contra hnone
    exact hfault ⟨hvalid, fun j hj hsame => hnone ⟨j, hj, hsame⟩⟩
  simp [checkFrom, List.range'_succ, checkRecords, hvalid, named, imageIndex]

/-- The records that pass are passed over. -/
theorem checkFrom_zero_of_pass (hpass : ∀ j : Nat, j < k → RecordPasses body j) (m : Nat) :
    checkFrom body 0 (k + m) = checkFrom body k m := by
  induction k generalizing m with
  | zero => rw [Nat.zero_add]
  | succ k ih =>
    rw [Nat.add_right_comm, Nat.add_assoc, ih (fun j hj => hpass j (Nat.lt_succ_of_lt hj)),
      checkFrom_of_passes (hpass k k.lt_succ_self)]

end

/-! ## Checks 5 and 6 together -/

section
variable {h : Vector Byte 12} {body : List Byte}

theorem checkBody_of_unsummed (hsum : halfWordSum (h.toList ++ body) % 2 ^ 16 ≠ 0) :
    checkBody h body = some (.corrupt 4 (12 + 16 * h[5].toNat) 0) := if_pos hsum

theorem checkBody_of_summed (hsum : halfWordSum (h.toList ++ body) % 2 ^ 16 = 0) :
    checkBody h body = checkFrom body 0 h[5].toNat := by
  rw [checkBody, if_neg (not_not.2 hsum), checkFrom, ← List.range_eq_range']
  rfl

/-- With the half-words summing to 0, check 6 comes to the first record that does not pass. -/
theorem checkBody_of_first {k : Nat} (hsum : halfWordSum (h.toList ++ body) % 2 ^ 16 = 0) (hk : k < h[5].toNat)
    (hpass : ∀ j : Nat, j < k → RecordPasses body j) : ∃ m, checkBody h body = checkFrom body k (m + 1) := by
  obtain ⟨m, hm⟩ := Nat.exists_eq_add_of_lt hk
  exact ⟨m, by rw [checkBody_of_summed hsum, hm, Nat.add_assoc, checkFrom_zero_of_pass hpass]⟩

theorem checkBody_of_pass (hsum : halfWordSum (h.toList ++ body) % 2 ^ 16 = 0)
    (hpass : ∀ k : Nat, k < h[5].toNat → RecordPasses body k) : checkBody h body = none := by
  rw [checkBody_of_summed hsum]
  exact checkFrom_zero_of_pass hpass 0

end

/-! ## The region table of a valid image (R184) -/

section
variable {body : List Byte}

/-- The region table after the first `n` records are loaded. -/
def regionsAfter (body : List Byte) (n : Nat) : Vector RegionEntry 16 :=
  ((List.range n).map (imageRecord body)).foldl (fun t bs => t.set (recordIndex bs) (unpackRegion bs))
    (Vector.replicate 16 RegionEntry.off)

theorem regions_loadValid (h : Vector Byte 12) (s : State) :
    (loadValid h body s).regions = regionsAfter body h[5].toNat := rfl

theorem getElem_regionsAfter_succ (n : Nat) (r : RegionIx) : (regionsAfter body (n + 1))[r] =
    if imageIndex body n = r then unpackRegion (imageRecord body n) else (regionsAfter body n)[r] := by
  have last_set : regionsAfter body (n + 1) =
      (regionsAfter body n).set (imageIndex body n) (unpackRegion (imageRecord body n)) := by
    simp [regionsAfter, List.range_succ, imageIndex]
  rw [last_set]
  simp only [Fin.getElem_fin, Vector.getElem_set, Fin.ext_iff]

theorem getElem_regionsAfter_of_unnamed {n : Nat} {r : RegionIx} (hnone : ∀ k : Nat, k < n → imageIndex body k ≠ r) :
    (regionsAfter body n)[r] = RegionEntry.off := by
  induction n with
  | zero => simp [regionsAfter]
  | succ n ih =>
    rw [getElem_regionsAfter_succ, if_neg (hnone n n.lt_succ_self), ih fun k hk => hnone k (Nat.lt_succ_of_lt hk)]

/-- A record's entry stands, since no later record that passes names its index. -/
theorem getElem_regionsAfter_of_pass {n k : Nat} (hpass : ∀ j : Nat, j < n → RecordPasses body j) (hk : k < n) :
    (regionsAfter body n)[imageIndex body k] = unpackRegion (imageRecord body k) := by
  induction n with
  | zero => exact absurd hk k.not_lt_zero
  | succ n ih =>
    rw [getElem_regionsAfter_succ]
    obtain hlt | rfl := Nat.lt_succ_iff_lt_or_eq.1 hk
    · obtain ⟨-, hnew⟩ := hpass n n.lt_succ_self
      rw [if_neg (hnew k hlt).symm, ih (fun j hj => hpass j (Nat.lt_succ_of_lt hj)) hlt]
    · exact if_pos rfl

end

/-! ## The end of loading -/

section
variable {h : Vector Byte 12} {body : List Byte} {s : State}

theorem exec_endOfLoading_of_ended {f : ImageFailure} (hboot : s.boot = .ended h f) :
    exec (.endOfLoading body) s = .next (loadFailed h f s) := by
  change execEndOfLoading body s = _
  simp only [execEndOfLoading, hboot]

theorem exec_endOfLoading_of_corrupt {f : ImageFailure} (hboot : s.boot = .body h)
    (hlength : body.length = 16 * h[5].toNat + 2) (hcheck : checkBody h body = some f) :
    exec (.endOfLoading body) s = .next (loadFailed h f s) := by
  change execEndOfLoading body s = _
  simp only [execEndOfLoading, hboot, hcheck]
  exact if_pos hlength

theorem exec_endOfLoading_of_valid (hboot : s.boot = .body h) (hlength : body.length = 16 * h[5].toNat + 2)
    (hcheck : checkBody h body = none) : exec (.endOfLoading body) s = .next (loadValid h body s) := by
  change execEndOfLoading body s = _
  simp only [execEndOfLoading, hboot, hcheck]
  exact if_pos hlength

end

/-- Settles O55: a read ended at its header has its outcome, and one of a whole body that of the sum and of the first record
that does not pass; where all pass, no entry that is loaded is overwritten. -/
theorem loadingEnds : Obligations.LoadingEnds := by
  intro h body s record good image summed defaults corrupt
  refine ⟨fun ones hboot => ?_, fun cause offset index hboot => exec_endOfLoading_of_ended hboot, fun hboot hlength => ?_⟩
  · rw [exec_endOfLoading_of_ended hboot]
    cases ones <;> rfl
  have even : image.length % 2 = 0 := by
    have parts : image.length = 12 + body.length := by simp [image]
    omega
  have summed_iff : summed ↔ halfWordSum image % 2 ^ 16 = 0 := by rw [halfWordSum_of_even image even]; rfl
  have ends_corrupt {cause offset : Nat} {index : RegionIx}
      (hcheck : checkBody h body = some (.corrupt cause offset index)) : corrupt cause offset index :=
    exec_endOfLoading_of_corrupt hboot hlength hcheck
  refine ⟨fun hsum => ?_, fun hsum k hk hpass => ?_, fun hsum hpass => ?_⟩
  · exact ends_corrupt (checkBody_of_unsummed (summed_iff.not.1 hsum))
  · obtain ⟨m, hcheck⟩ := checkBody_of_first (summed_iff.1 hsum) hk hpass
    exact ⟨fun hinvalid => ends_corrupt (hcheck.trans (checkFrom_of_invalid hinvalid m)),
      fun hvalid hfault => ends_corrupt (hcheck.trans (checkFrom_of_repeated hvalid hfault m))⟩
  · have hcheck : checkBody h body = none := checkBody_of_pass (summed_iff.1 hsum) hpass
    refine ⟨loadValid h body s, exec_endOfLoading_of_valid hboot hlength hcheck, fun k hk => ?_, fun r hnone => ?_, rfl, rfl⟩
    · rw [regions_loadValid]
      exact getElem_regionsAfter_of_pass hpass hk
    · rw [regions_loadValid]
      exact getElem_regionsAfter_of_unnamed hnone

end Sys2Proof.Machine
end

section
/-! SUPPORT. The statements about the step itself, about the two levels of a power-on reset and the laws that it meets, and
about the rows whose occasion does not hold. -/

namespace Sys2Proof.Machine

/-- Where no command waits, a step clocks a byte or idles. -/
theorem step_of_no_command {s : State} (hempty : s.pending = []) : step s = clockNext s := by
  simp only [step, hempty]

/-- Settles O1: the queue, and then data in, decide what a step takes. -/
theorem stepTakesTheFrontCommand : Obligations.StepTakesTheFrontCommand := by
  refine ⟨fun c rest s hqueue => by rw [step, hqueue], fun s hempty => ⟨fun hnone => ?_, fun b rest hbytes => ?_⟩⟩
  · rw [step_of_no_command hempty]
    simp only [clockNext, hnone]
  · rw [step_of_no_command hempty]
    simp only [clockNext, hbytes]

/-! ## The empty tables -/

section
variable (b : Bool) (s : State)

/-- What a power-on reset leaves. -/
def State.poweredOn (s : State) (bootsel : Bool) : State :=
  { State.reset with
    operating := if bootsel then .held else .loading
    image := if bootsel then .notRead else .loading
    boot := if bootsel then .idle else .header
    port := portAfterReset s.port
    responses := s.responses
    strobes := s.strobes
    dataIn := s.dataIn
    pending := s.pending }

theorem exec_powerOnReset : exec (.powerOnReset b) s = .next (s.poweredOn b) := rfl

theorem State.reset_tag (p : Pair) : State.reset.tag p = none := by simp [State.tag, State.reset]
theorem State.reset_entries (e : EntryIx) : State.reset.entries[e] = none := by simp [State.reset]
theorem State.reset_slots (k : SlotIx) : State.reset.slots[k] = none := by simp [State.reset]
theorem State.reset_regions (r : RegionIx) : State.reset.regions[r] = RegionEntry.off := by simp [State.reset]
theorem State.reset_lockLost (i : Initiator) : State.reset.lockLost[i] = false := by simp [State.reset]
theorem State.reset_acceptance (i : Initiator) : State.reset.acceptance[i] = 0 := by simp [State.reset]
theorem State.reset_waitLimits (k : Select) : State.reset.waitLimits[k] = Config.defaultWaitLimit := by simp [State.reset]

end

/-- Settles O52: both levels of BOOTSEL, and every table of `State.reset` is empty. -/
theorem powerOnResetEmptiesThePart : Obligations.PowerOnResetEmptiesThePart := by
  intro b s
  refine ⟨s.poweredOn b, exec_powerOnReset b s, State.reset_regions, rfl, rfl, rfl, State.reset_tag, State.reset_acceptance,
    State.reset_entries, rfl, rfl, State.reset_slots, State.reset_lockLost, rfl, State.reset_waitLimits, rfl, rfl, rfl, rfl,
    rfl, rfl, fun hport => ?_, fun hport => ?_, rfl, rfl, ?_, ?_, rfl, rfl⟩
  · change portAfterReset s.port = .ignored
    cases h : s.port with
    | deselected => exact absurd h hport
    | ignored => rfl
    | frame f => rfl
  · change portAfterReset s.port = .deselected
    rw [hport]
    rfl
  · rintro rfl
    exact ⟨rfl, rfl, rfl, rfl⟩
  · rintro rfl
    exact ⟨rfl, rfl, rfl, rfl⟩

/-! ## The laws of a part with empty tables -/

section
variable {s : State}

/-- With no record live, no reservation held, no entry in use and no access open, the tables agree about one another. -/
theorem Lawful.of_empty (htags : ∀ p, s.tag p = none) (hslots : ∀ k : SlotIx, s.slots[k] = none)
    (hentries : ∀ e : EntryIx, s.entries[e] = none) (haccess : s.access = none) : Lawful s := by
  refine ⟨⟨fun k l _ r hr => ?_, fun k r hr => ?_⟩, ⟨fun i t r hr => ?_, fun a ha => ?_⟩, fun k r hr => ?_,
    fun i t r hr => ?_, fun i t r hr => ?_, fun e c hc => ?_, fun a ha => ?_⟩
  · rw [hslots k] at hr; cases hr
  · rw [hslots k] at hr; cases hr
  · rw [htags] at hr; cases hr
  · rw [haccess] at ha; cases ha
  · rw [hslots k] at hr; cases hr
  · rw [htags] at hr; cases hr
  · rw [htags] at hr; cases hr
  · rw [hentries e] at hc; cases hc
  · rw [haccess] at ha; cases ha

/-- With no record live no UNLOCK is ready, and in IDLE no drain is due. -/
theorem Settled.of_empty (htags : ∀ p, s.tag p = none) (hidle : s.apply = .idle) : Settled s := by
  refine ⟨fun i => List.find?_eq_none.2 fun p _ => ?_, ?_⟩
  · simp [htags]
  · simp [State.drainDue, hidle]

/-- No timer runs in a part with empty tables. -/
theorem State.due_of_empty (htags : ∀ p, s.tag p = none) (hslots : ∀ k : SlotIx, s.slots[k] = none)
    (hentries : ∀ e : EntryIx, s.entries[e] = none) (haccess : s.access = none) (hidle : s.apply = .idle) (T : Timer) :
    s.due T = false := by
  cases T with
  | verdict p => simp [State.due, htags]
  | strand e => rw [State.due, hentries]; rfl
  | lock k => rw [State.due, hslots]; rfl
  | drain => simp [State.due, hidle]
  | wait => simp [State.due, haccess]

/-- An OFF entry is valid (R8). -/
theorem RegionEntry.valid_off : RegionEntry.off.valid = true := rfl

theorem RegionLaw.of_off (hregions : ∀ r : RegionIx, s.regions[r] = RegionEntry.off) (hidle : s.apply = .idle) :
    RegionLaw s :=
  ⟨fun r => by rw [hregions r]; rfl, fun h => absurd hidle h⟩

end

theorem regionLaw_poweredOn (b : Bool) (s : State) : RegionLaw (s.poweredOn b) := .of_off State.reset_regions rfl

theorem lawful_poweredOn (b : Bool) (s : State) : Lawful (s.poweredOn b) :=
  .of_empty State.reset_tag State.reset_slots State.reset_entries rfl

theorem settled_poweredOn (b : Bool) (s : State) : Settled (s.poweredOn b) := .of_empty State.reset_tag rfl

theorem timerLaw_poweredOn (b : Bool) (s : State) : TimerLaw (s.poweredOn b) := by
  refine ⟨regionLaw_poweredOn b s, (by decide : Config.defaultDrainLimit ≠ 0), fun k => ?_, nofun, fun h hboot => ?_,
    State.due_of_empty State.reset_tag State.reset_slots State.reset_entries rfl rfl⟩
  · exact (State.reset_waitLimits k).trans_ne (by decide)
  · cases b <;> cases hboot

/-- The state after reset is that of a power-on reset with BOOTSEL low. -/
theorem reset_eq_poweredOn : State.reset = State.reset.poweredOn false := rfl

/-- Settles O56: every table of the state after reset is empty. -/
theorem resetMeetsTheLaws : Obligations.ResetMeetsTheLaws := by
  rw [Obligations.ResetMeetsTheLaws, reset_eq_poweredOn]
  exact ⟨Nat.zero_le _, regionLaw_poweredOn _ _, timerLaw_poweredOn _ _, lawful_poweredOn _ _, settled_poweredOn _ _⟩

/-! ## Rows whose occasion does not hold -/

section
variable {s : State}

theorem State.due_verdict_iff {p : Pair} :
    s.due (.verdict p) = true ↔ ∃ r ∈ s.tag p, r.timer = some 0 ∧ r.verdict = .none := by
  simp [State.due, Option.any_eq_true]

theorem State.due_strand_iff {e : EntryIx} :
    s.due (.strand e) = true ↔ ∃ c ∈ s.entries[e], ∃ n : Nat, c.state = .stranded n (some 0) := by
  rw [State.due, Option.any_eq_true]
  refine exists_congr fun c => and_congr_right fun _ => ?_
  cases c.state with
  | filling b n => simp
  | captured b => simp
  | stranded n t => simp

theorem State.due_lock_iff {k : SlotIx} : s.due (.lock k) = true ↔ ∃ v ∈ s.slots[k], v.state = .reserved 0 := by
  rw [State.due, Option.any_eq_true]
  simp

theorem State.due_drain_iff : s.due .drain = true ↔ ∃ r : RegionIx, s.apply = .draining r 0 := by
  rw [State.due]
  cases s.apply with
  | idle => simp
  | draining r n => simp

theorem State.due_wait_iff : s.due .wait = true ↔ ∃ a ∈ s.access, ∃ f ∈ a.flight, f.timer = 0 := by
  rw [State.due, Option.any_eq_true]
  simp [Option.any_eq_true]

/-- The row of a timer that is not due changes nothing. -/
theorem exec_expiryRow (T : Timer) (s : State) : exec (expiryRow T) s = .next (expire T s) := by cases T <;> rfl

theorem exec_expiryRow_of_not_due {T : Timer} (h : ¬s.due T = true) : exec (expiryRow T) s = .next s := by
  rw [exec_expiryRow, expire_of_not_due T s (Bool.eq_false_iff.2 h)]

theorem exec_beat_end_of_no_flight (h : ∀ a ∈ s.access, a.flight = none) :
    (∀ w : Word, exec (.targetReady w) s = .next s) ∧ ∀ b : Bool, exec (.targetError b) s = .next s := by
  refine ⟨fun w => ?_, fun b => ?_⟩
  · change execTargetReady w s = _
    cases haccess : s.access with
    | none => simp only [execTargetReady, haccess]
    | some a => simp only [execTargetReady, haccess, h a haccess]
  · change execTargetError b s = _
    cases haccess : s.access with
    | none => simp only [execTargetError, haccess]
    | some a => simp only [execTargetError, haccess, h a haccess]

theorem exec_beatIssue_of_busy (h : ∀ a ∈ s.access, a.flight.isSome = true) : exec .beatIssue s = .next s := by
  change execBeatIssue s = _
  cases haccess : s.access with
  | none => simp only [execBeatIssue, haccess]
  | some a =>
    obtain ⟨f, hf⟩ := Option.isSome_iff_exists.1 (h a haccess)
    simp only [execBeatIssue, haccess, hf]

end

/-- Settles O29: an expiry that is not due changes nothing, and the other rows look for their occasion first. -/
theorem eventsThatDoNotArise : Obligations.EventsThatDoNotArise := by
  intro s
  refine ⟨fun p h => ?_, fun e h => ?_, fun k h => ?_, fun h => ?_, fun h => ?_, exec_beat_end_of_no_flight, fun _ => rfl,
    exec_beatIssue_of_busy⟩
  · refine exec_expiryRow_of_not_due (T := .verdict p) ?_
    rw [State.due_verdict_iff]
    rintro ⟨r, hr, hdue, -⟩
    exact h r hr hdue
  · refine exec_expiryRow_of_not_due (T := .strand e) ?_
    rw [State.due_strand_iff]
    rintro ⟨c, hc, n, hdue⟩
    exact h c hc n hdue
  · refine exec_expiryRow_of_not_due (T := .lock k) ?_
    rw [State.due_lock_iff]
    rintro ⟨v, hv, hdue⟩
    exact h v hv hdue
  · refine exec_expiryRow_of_not_due (T := .drain) ?_
    rw [State.due_drain_iff]
    rintro ⟨r, hdue⟩
    exact h r hdue
  · refine exec_expiryRow_of_not_due (T := .wait) ?_
    rw [State.due_wait_iff]
    rintro ⟨a, ha, f, hf, hdue⟩
    exact h a ha f hf hdue

end Sys2Proof.Machine
end

section
/-! SUPPORT. The match of an address, the header's checks, raised records, the settings of the management port, and the issue
of a beat: the statements about them. -/

namespace Sys2Proof.Machine

/-! ## The match of an address (R4) -/

/-- The codes that name a class (R166). -/
theorem classOf_eq_some_iff (code : BitVec 3) (c : RegionClass) : classOf code = some c ↔ code = match c with
    | .pass => 1
    | .hold => 2
    | .capture => 3 := by
  revert code
  cases c <;> decide

theorem classOf_eq_none_iff (code : BitVec 3) : classOf code = none ↔ ¬(code = 1 ∨ code = 2 ∨ code = 3) := by
  revert code
  decide

section
variable (regions : Vector RegionEntry 16) (a : Word)

/-- What an entry gives of the match of an address, taken by itself. -/
def matchAt (r : RegionIx) : Option (RegionIx × RegionClass) :=
  match classOf regions[r].cls with
  | some c => if regions[r].covers a.toNat then some (r, c) else none
  | none => none

theorem matchRegion_eq_findSome? : matchRegion regions a = Fin.findSome? (matchAt regions a) :=
  (Fin.findSome?_eq_findSome?_finRange _).symm

theorem matchAt_eq_some_iff {q r : RegionIx} {c : RegionClass} : matchAt regions a q = some (r, c) ↔
    q = r ∧ classOf regions[q].cls = some c ∧ regions[q].covers a.toNat = true := by
  unfold matchAt
  cases classOf regions[q].cls with
  | none => simp
  | some d =>
    simp only [Option.ite_none_right_eq_some, Option.some_inj, Prod.mk.injEq]
    tauto

theorem matchAt_eq_none_iff {q : RegionIx} : matchAt regions a q = none ↔
    ¬((regions[q].cls = 1 ∨ regions[q].cls = 2 ∨ regions[q].cls = 3) ∧ regions[q].covers a.toNat = true) := by
  rw [← not_not (a := _ ∨ _), ← classOf_eq_none_iff]
  unfold matchAt
  cases classOf regions[q].cls with
  | none => simp
  | some d => simp

end

/-- Settles O8: the match is the first entry that has a class and covers the address. -/
theorem theLowestWindowMatches : Obligations.TheLowestWindowMatches := by
  intro regions a named inside
  have covers (q : RegionIx) : regions[q].covers a.toNat = true ↔ inside q := RegionEntry.covers_iff _ _
  have unmatched (q : RegionIx) : matchAt regions a q = none ↔ ¬(named q ∧ inside q) := by
    rw [matchAt_eq_none_iff, covers]
  rw [matchRegion_eq_findSome?]
  refine ⟨fun r c => ?_, ?_⟩
  · refine Fin.findSome?_eq_some_iff.trans (Iff.trans ?_ (and_congr_left' (classOf_eq_some_iff _ c)))
    constructor
    · rintro ⟨q, hq, hbelow⟩
      obtain ⟨rfl, hclass, hcovers⟩ := (matchAt_eq_some_iff regions a).1 hq
      exact ⟨hclass, (covers q).1 hcovers, fun j hj => (unmatched j).1 (hbelow j hj)⟩
    · rintro ⟨hclass, hinside, hbelow⟩
      exact ⟨r, (matchAt_eq_some_iff regions a).2 ⟨rfl, hclass, (covers r).2 hinside⟩,
        fun j hj => (unmatched j).2 (hbelow j hj)⟩
  · rw [Fin.findSome?_eq_none_iff]
    exact forall_congr' unmatched

/-! ## The header's checks (R183) -/

section
variable {h : Vector Byte 12} {s : State}

/-- The boot progress once the header has been read. -/
def bootAfterHeader (h : Vector Byte 12) : Boot :=
  match checkHeader h with
  | none => .body h
  | some failure => .ended h failure

theorem exec_headerReadDone (hboot : s.boot = .header) :
    exec (.headerReadDone h) s = .next { s with boot := bootAfterHeader h } := by
  change execHeaderReadDone h s = _
  simp only [execHeaderReadDone, hboot, bootAfterHeader]
  cases checkHeader h <;> rfl

theorem header_toList (h : Vector Byte 12) :
    h.toList = [h[0], h[1], h[2], h[3], h[4], h[5], h[6], h[7], h[8], h[9], h[10], h[11]] := by
  obtain ⟨⟨l⟩, hl⟩ := h
  match l, hl with
  | [_, _, _, _, _, _, _, _, _, _, _, _], _ => rfl

/-- The image begins with two copies of the identity (R182). -/
abbrev HasIdentity (h : Vector Byte 12) : Prop := h[0] = 0xA7 ∧ h[1] = 0x3C ∧ h[2] = 0xA7 ∧ h[3] = 0x3C

theorem identity_iff : h.toList.take 2 ≠ Config.identity ∨ (h.toList.drop 2).take 2 ≠ Config.identity ↔ ¬HasIdentity h := by
  simp only [header_toList, Config.identity, HasIdentity, List.take_succ_cons, List.take_zero, List.drop_succ_cons,
    List.drop_zero, List.cons.injEq, and_true, Ne]
  tauto

theorem checkHeader_of_no_identity (hid : ¬HasIdentity h) : checkHeader h =
    some (.absent (decide (h[0] = 0xFF ∧ h[1] = 0xFF ∧ h[2] = 0xFF ∧ h[3] = 0xFF))) := by
  have ones : (h.toList.take 4 == List.replicate 4 0xFF) =
      decide (h[0] = 0xFF ∧ h[1] = 0xFF ∧ h[2] = 0xFF ∧ h[3] = 0xFF) := by
    rw [header_toList, Bool.eq_iff_iff]
    simp [List.replicate]
  rw [← ones]
  exact if_pos (identity_iff.2 hid)

theorem checkHeader_of_identity (hid : HasIdentity h) : checkHeader h =
    if h[4] ≠ Config.imageVersion then some (.corrupt 1 4 0)
    else if 16 < regionCount h then some (.corrupt 2 5 0)
    else (settingOutOfRange h).map fun offset => .corrupt 3 offset 0 :=
  if_neg (mt identity_iff.1 (not_not.2 hid))

theorem checkHeader_of_version (hid : HasIdentity h) (hversion : h[4] ≠ 1) : checkHeader h = some (.corrupt 1 4 0) :=
  (checkHeader_of_identity hid).trans (if_pos hversion)

theorem checkHeader_of_count (hid : HasIdentity h) (hversion : h[4] = 1) (hcount : 16 < h[5].toNat) :
    checkHeader h = some (.corrupt 2 5 0) :=
  (checkHeader_of_identity hid).trans ((if_neg (not_not.2 hversion)).trans (if_pos hcount))

theorem checkHeader_of_settings (hid : HasIdentity h) (hversion : h[4] = 1) (hcount : h[5].toNat ≤ 16) :
    checkHeader h = (settingOutOfRange h).map fun offset => .corrupt 3 offset 0 :=
  (checkHeader_of_identity hid).trans ((if_neg (not_not.2 hversion)).trans (if_neg (not_lt.2 hcount)))

theorem settingOutOfRange_of_divider (hdivider : h[6].toNat < 10 ∨ 100 < h[6].toNat) : settingOutOfRange h = some 6 :=
  if_pos hdivider

/-- The first of the limits that is 0 is out of range. -/
theorem settingOutOfRange_of_zero (hdivider : ¬(h[6].toNat < 10 ∨ 100 < h[6].toNat)) {k : Nat} {hk : k < 12} (hlow : 7 ≤ k)
    (hzero : h[k] = 0) (hbelow : ∀ (j : Nat) (hj : j < 12), 7 ≤ j → j < k → h[j] ≠ 0) :
    settingOutOfRange h = some k := by
  rw [settingOutOfRange, if_neg hdivider]
  obtain rfl | rfl | rfl | rfl | rfl : k = 7 ∨ k = 8 ∨ k = 9 ∨ k = 10 ∨ k = 11 := by omega
  · rw [if_pos hzero]
  · rw [if_neg (hbelow 7 _ le_rfl (by decide)), if_pos hzero]
  · rw [if_neg (hbelow 7 _ le_rfl (by decide)), if_neg (hbelow 8 _ (by decide) (by decide)), if_pos hzero]
  · rw [if_neg (hbelow 7 _ le_rfl (by decide)), if_neg (hbelow 8 _ (by decide) (by decide)),
      if_neg (hbelow 9 _ (by decide) (by decide)), if_pos hzero]
  · rw [if_neg (hbelow 7 _ le_rfl (by decide)), if_neg (hbelow 8 _ (by decide) (by decide)),
      if_neg (hbelow 9 _ (by decide) (by decide)), if_neg (hbelow 10 _ (by decide) (by decide)), if_pos hzero]

theorem settingOutOfRange_of_none (hdivider : ¬(h[6].toNat < 10 ∨ 100 < h[6].toNat))
    (hlimits : ∀ (k : Nat) (hk : k < 12), 7 ≤ k → h[k] ≠ 0) : settingOutOfRange h = none := by
  rw [settingOutOfRange, if_neg hdivider, if_neg (hlimits 7 _ le_rfl), if_neg (hlimits 8 _ (by decide)),
    if_neg (hlimits 9 _ (by decide)), if_neg (hlimits 10 _ (by decide)), if_neg (hlimits 11 _ (by decide))]

/-- Checks 2 to 4 end the read after 12 bytes (R181). -/
theorem bytesRead_of_identity (hid : HasIdentity h) : (bootAfterHeader h).bytesRead = 12 := by
  unfold bootAfterHeader
  rw [checkHeader_of_identity hid]
  split_ifs
  · rfl
  · rfl
  · cases settingOutOfRange h <;> rfl

end

/-- Settles O54: the read goes on to the body exactly where no check fails, and each check decides where those before it
pass. -/
theorem theHeaderIsChecked : Obligations.TheHeaderIsChecked := by
  intro h s hboot identity ended
  have hexec := exec_headerReadDone (h := h) hboot
  have ends {f : ImageFailure} (hcheck : checkHeader h = some f) : ended f := by
    change exec _ s = _
    rw [hexec, bootAfterHeader, hcheck]
  have asserted : s.flashSelect = true := by rw [State.flashSelect, hboot]
  refine ⟨asserted, ?_, ⟨_, hexec, ?_, bytesRead_of_identity, fun hid => ?_⟩, fun hid => ends (checkHeader_of_no_identity hid),
    fun hid hversion => ends (checkHeader_of_version hid hversion),
    fun hid hversion hcount => ends (checkHeader_of_count hid hversion hcount), fun hid hversion hcount => ?_⟩
  · have sent : s.bootOut = fun k => Config.flashRead[k]? := by
      funext k
      rw [State.bootOut, if_pos asserted]
    rw [sent]
    rfl
  · change State.flashSelect { s with boot := bootAfterHeader h } = true ↔ bootAfterHeader h = _
    unfold bootAfterHeader
    cases checkHeader h <;> simp [State.flashSelect]
  · simp only [bootAfterHeader, checkHeader_of_no_identity hid]
    rfl
  · have hsettings := checkHeader_of_settings hid hversion hcount
    refine ⟨fun hdivider => ends ?_, fun hlow hhigh => ⟨fun k hk hk7 hzero hbelow => ends ?_, fun hlimits => ?_⟩⟩
    · rw [hsettings, settingOutOfRange_of_divider hdivider]
      rfl
    · rw [hsettings, settingOutOfRange_of_zero (by omega) hk7 hzero hbelow]
      rfl
    · rw [hexec, bootAfterHeader, hsettings, settingOutOfRange_of_none (by omega) hlimits]
      rfl

/-! ## Raised records and ALERT (R171, R176, R177) -/

/-- The kinds are listed by their numbers, each once. -/
theorem eventKinds_getElem?_iff (kind : EventKind) (b : Nat) : eventKinds[b]? = some kind ↔ b = kind.number - 1 := by
  constructor
  · intro h
    have hlt : b < 17 := (List.getElem?_eq_some_iff.1 h).1
    revert h
    revert kind
    decide +revert
  · rintro rfl
    exact eventKinds_number kind

section
variable {s : State}

theorem State.enables_iff (kind : EventKind) :
    s.enables kind = true ↔ ∃ b : Nat, eventKinds[b]? = some kind ∧ s.alertMask.getLsbD b = true := by
  simp [eventKinds_getElem?_iff, State.enables]

theorem State.alert_iff : s.alert = true ↔ (∃ e ∈ s.events, s.enables e.kind = true) ∨ s.overflow = true := by
  simp [State.alert]

theorem State.raise_of_room (e : EventRecord) (h : s.events.length < 16) :
    s.raise e = { s with events := s.events ++ [{ e with timestamp := s.timebase }] } := by
  simp [State.raise, Config.queueDepth, h]

theorem State.raise_of_full (e : EventRecord) (h : 16 ≤ s.events.length) : s.raise e = { s with overflow := true } := by
  simp [State.raise, Config.queueDepth, not_lt.2 h]

end

/-- Settles O47: a record is stored at the young end, or the flag is set. -/
theorem raisingStoresOrRefuses : Obligations.RaisingStoresOrRefuses := by
  intro s enabled
  have henables (kind : EventKind) : s.enables kind = true ↔ enabled kind := State.enables_iff kind
  refine ⟨by simp only [State.alert_iff, henables], fun e => ⟨fun room => ?_, fun full => ?_⟩⟩
  · have stored : (s.raise e).alert = (s.alert || s.enables e.kind) := by
      rw [State.raise_of_room e room, State.alert, List.any_append, List.any_cons, List.any_nil, Bool.or_false, State.alert,
        Bool.or_right_comm]
      rfl
    refine ⟨State.raise_of_room e room, fun hon => ?_, fun hoff => ?_⟩
    · rw [stored, (henables e.kind).2 hon, Bool.or_true]
    · rw [stored, Bool.eq_false_iff.2 (mt (henables e.kind).1 hoff), Bool.or_false]
  · refine ⟨State.raise_of_full e full, ?_⟩
    rw [State.raise_of_full e full, State.alert_iff]
    exact .inr rfl

/-! ## The issue of a beat (R150, R151) -/

section
variable {a : Access} {s : State}

theorem exec_beatIssue_of_open (haccess : s.access = some a) (hflight : a.flight = none) :
    exec .beatIssue s = .next (issueBeat a s) := by
  change execBeatIssue s = _
  simp only [execBeatIssue, haccess, hflight]

end

/-- Settles O36: a beat issue is `issueBeat`, whose strobe the statement writes out. -/
theorem beatsAreIssued : Obligations.BeatsAreIssued := by
  refine ⟨fun s hidle => by rw [State.selected, hidle]; rfl, fun a s haccess => ⟨by rw [State.selected, haccess]; rfl, ?_⟩⟩
  intro hflight b address
  have haddress : beatAddress a.place a.size a.next = address := by
    simp only [beatAddress, address]
    cases a.place.mode <;> rfl
  rw [exec_beatIssue_of_open haccess hflight, issueBeat, beatStrobe, haddress]
  simp only [State.setAccess, laneMask, toLines]
  cases a.kind with
  | read => rfl
  | write => cases s.tag a.pair <;> rfl

/-! ## The settings of the management port (R158, R185) -/

/-- Settles O49: each command replies with what it sets, or INVALID. -/
theorem settingWaitLimitsAndTheState : Obligations.SettingWaitLimitsAndTheState := by
  intro s hlistens hloaded
  refine ⟨fun b limit => ⟨fun hbad => ?_, fun k hk hlimit => ?_⟩, ?_, ?_⟩
  · refine congrArg Host.Outcome.next ((takeCommand_unlessLoading hlistens hloaded (dif_neg ?_) 0x13 [b, limit]).trans rfl)
    rintro ⟨hlow, hlimit⟩
    obtain hhigh | hzero := hbad
    · omega
    · exact hlimit hzero
  · have inRange : b.toNat < 4 ∧ limit ≠ 0 := ⟨hk ▸ k.isLt, hlimit⟩
    refine ⟨_, congrArg Host.Outcome.next (takeCommand_unlessLoading hlistens hloaded (dif_pos inRange) 0x13 [b, limit]),
      fun j => ?_, ?_⟩
    · change (s.waitLimits.set b.toNat limit inRange.1)[j] = _
      simp only [Fin.getElem_fin, Vector.getElem_set, hk, Fin.ext_iff, eq_comm]
    · have four (v : Vector Byte 4) : v.toList = [v[0], v[1], v[2], v[3]] := by
        obtain ⟨⟨l⟩, hl⟩ := v
        match l, hl with
        | [_, _, _, _], _ => rfl
      exact congrArg (State.answered _ 0x13 [b, limit]) (congrArg (0x00 :: ·) (four _))
  · exact congrArg Host.Outcome.next (takeCommand_unlessLoading hlistens hloaded rfl 0x40 [])
  · exact congrArg Host.Outcome.next (takeCommand_unlessLoading hlistens hloaded rfl 0x41 [])

end Sys2Proof.Machine
end

section
/-! SUPPORT. Little-endian fields read back, the region record read back, and the statements about STAGE REGION and APPLY
REGION, about DISCARD STRANDS, and about the answers in LOADING. -/

namespace Sys2Proof.Machine

/-! ## Fields and region records read back (R165, R166) -/

theorem leBytes_succ (k n : Nat) : leBytes (k + 1) n = BitVec.ofNat 8 n :: leBytes k (n / 256) := by
  have shift (j : Nat) : n >>> (8 * (j + 1)) = (n / 256) >>> (8 * j) := by
    rw [Nat.shiftRight_eq_div_pow, Nat.shiftRight_eq_div_pow, Nat.div_div_eq_div_mul, Nat.mul_succ, Nat.pow_add,
      Nat.mul_comm]
  simp [leBytes, List.range_succ_eq_map, shift]

theorem ofBytes_leBytes (k n : Nat) : ofBytes (leBytes k n) = n % 256 ^ k := by
  induction k generalizing n with
  | zero => rw [Nat.pow_zero, Nat.mod_one]; rfl
  | succ k ih =>
    rw [leBytes_succ, ofBytes, ih, BitVec.toNat_ofNat, show 256 ^ (k + 1) = 256 * 256 ^ k from Nat.pow_succ']
    exact Nat.mod_mul.symm

theorem length_leBytes (k n : Nat) : (leBytes k n).length = k := by simp [leBytes]

/-- A field whose bytes are those of a number that fits is that number. -/
theorem fieldAt_eq {bs : List Byte} {k n v : Nat} (h : (bs.drop k).take n = leBytes n v) (hv : v < 256 ^ n) :
    fieldAt bs k n = v := by
  rw [fieldAt, h, ofBytes_leBytes, Nat.mod_eq_of_lt hv]

section
variable (r : RegionIx) (e : RegionEntry)

theorem byteAt_zero_packRegion : byteAt (packRegion r e) 0 = r.val + 16 * e.cls.toNat + 128 * e.lock.toNat := by
  have hlock : e.lock.toNat ≤ 1 := Bool.toNat_le _
  change (BitVec.ofNat 8 ((r.val + 16 * e.cls.toNat + 128 * e.lock.toNat) >>> 0)).toNat = _
  rw [Nat.shiftRight_zero, BitVec.toNat_ofNat]
  omega

theorem fieldAt_hostBase : fieldAt (packRegion r e) 3 4 = e.hostBase.toNat := fieldAt_eq rfl e.hostBase.isLt

theorem fieldAt_target : fieldAt (packRegion r e) 7 4 =
    e.targetBase.toNat + 2 ^ 28 * e.select.val + 2 ^ 30 * e.mode.toNat := fieldAt_eq rfl (by omega)

theorem fieldAt_limits : fieldAt (packRegion r e) 11 3 = e.verdictLimit.toNat + 2 ^ 12 * e.lockLimit.toNat :=
  fieldAt_eq rfl (by omega)

theorem fieldAt_strandWindow : fieldAt (packRegion r e) 14 2 = e.strandWindow.toNat := fieldAt_eq rfl e.strandWindow.isLt

theorem recordIndex_packRegion : recordIndex (packRegion r e) = r := by
  have hlock : e.lock.toNat ≤ 1 := Bool.toNat_le _
  rw [recordIndex, byteAt_zero_packRegion, Fin.ext_iff]
  simp only [Fin.ofNat]
  omega

theorem unpackRegion_packRegion : unpackRegion (packRegion r e) = e := by
  have hlow := byteAt_zero_packRegion r e
  have htarget := fieldAt_target r e
  have hlimits := fieldAt_limits r e
  have hlock : e.lock = decide (128 ≤ byteAt (packRegion r e) 0) := by
    rw [hlow]
    cases e.lock with
    | false => exact (decide_eq_false (by simp only [Bool.toNat_false]; omega)).symm
    | true => exact (decide_eq_true (by simp only [Bool.toNat_true]; omega)).symm
  have hbit : e.lock.toNat ≤ 1 := Bool.toNat_le _
  have hcls : BitVec.ofNat 3 (byteAt (packRegion r e) 0 / 16) = e.cls := by
    apply BitVec.eq_of_toNat_eq
    rw [hlow, BitVec.toNat_ofNat]
    omega
  have hbase : BitVec.ofNat 32 (fieldAt (packRegion r e) 3 4) = e.hostBase := by
    rw [fieldAt_hostBase, BitVec.ofNat_toNat, BitVec.setWidth_eq]
  have htargetBase : BitVec.ofNat 28 (fieldAt (packRegion r e) 7 4) = e.targetBase := by
    apply BitVec.eq_of_toNat_eq
    rw [htarget, BitVec.toNat_ofNat]
    omega
  have hselect : Fin.ofNat 4 (fieldAt (packRegion r e) 7 4 / 2 ^ 28) = e.select := by
    rw [htarget, Fin.ext_iff]
    simp only [Fin.ofNat]
    omega
  have hmode : BitVec.ofNat 2 (fieldAt (packRegion r e) 7 4 / 2 ^ 30) = e.mode := by
    apply BitVec.eq_of_toNat_eq
    rw [htarget, BitVec.toNat_ofNat]
    omega
  have hverdict : BitVec.ofNat 12 (fieldAt (packRegion r e) 11 3) = e.verdictLimit := by
    apply BitVec.eq_of_toNat_eq
    rw [hlimits, BitVec.toNat_ofNat]
    omega
  have hlockLimit : BitVec.ofNat 10 (fieldAt (packRegion r e) 11 3 / 2 ^ 12) = e.lockLimit := by
    apply BitVec.eq_of_toNat_eq
    rw [hlimits, BitVec.toNat_ofNat]
    omega
  have hwindow : BitVec.ofNat 16 (fieldAt (packRegion r e) 14 2) = e.strandWindow := by
    rw [fieldAt_strandWindow, BitVec.ofNat_toNat, BitVec.setWidth_eq]
  rw [unpackRegion, hcls, ← hlock, hbase, htargetBase, hselect, hmode, hverdict, hlockLimit, hwindow]
  rfl

end

/-! ## STAGE REGION and APPLY REGION (R10, R12) -/

section
variable {s : State} {b : Byte}

/-- What STAGE REGION replies once the image has been read (R10). -/
def stageReply (record : Vector Byte 16) (s : State) : Reply :=
  match s.apply with
  | .draining _ _ => ⟨.busy, [], s⟩
  | .idle => ⟨.ok, [], { s with staging := unpackRegion record.toList }⟩

theorem stageReply_of_idle {record : Vector Byte 16} (h : s.apply = .idle) :
    stageReply record s = ⟨.ok, [], { s with staging := unpackRegion record.toList }⟩ := by
  unfold stageReply
  split
  · simp_all
  · rfl

theorem stageReply_of_draining {record : Vector Byte 16} (h : s.apply ≠ .idle) : stageReply record s = ⟨.busy, [], s⟩ := by
  unfold stageReply
  split
  · rfl
  · exact absurd ‹_› h

theorem ApplyState.eq_draining {a : ApplyState} (h : a ≠ .idle) : ∃ r n, a = .draining r n := by
  cases a with
  | idle => exact absurd rfl h
  | draining r n => exact ⟨r, n, rfl⟩

theorem applyStaged_of_draining (h : s.apply ≠ .idle) : applyStaged b s = ⟨.busy, [], s⟩ := by
  obtain ⟨r, n, hr⟩ := ApplyState.eq_draining h
  simp only [applyStaged, hr]

theorem applyStaged_of_bad (hidle : s.apply = .idle) (hbad : 16 ≤ b.toNat ∨ s.staging.valid = false) :
    applyStaged b s = ⟨.invalid, [], s⟩ := by
  simp only [applyStaged, hidle]
  split
  · rename_i hlow
    rw [if_pos (hbad.resolve_left (by omega))]
  · rfl

variable {r : RegionIx} (hidle : s.apply = .idle) (hvalid : s.staging.valid = true) (hb : b.toNat = r.val)
include hidle hvalid hb

theorem applyStaged_of_good : applyStaged b s =
    if s.useCount r = 0 then ⟨.ok, [], settle s (makeChange r s)⟩
    else ⟨.pending, [], { s with apply := .draining r (drainTicks s) }⟩ := by
  have hlow : b.toNat < 16 := hb ▸ r.isLt
  have hindex : (⟨b.toNat, hlow⟩ : RegionIx) = r := Fin.ext hb
  simp only [applyStaged, hidle, hlow, dif_pos, hvalid, Bool.true_eq_false, if_false, hindex]

end

/-- Settles O48: STAGE REGION stores what the record unpacks to, and APPLY REGION replies by the drain, the index, the staging
record and the use count in turn. -/
theorem stagingAndApplying : Obligations.StagingAndApplying := by
  intro s hlistens hloaded
  have stages {record : Vector Byte 16} {w : Reply} (hreply : stageReply record s = w) :
      exec (.stageRegion record) s = .next (w.state.answered 0x10 record.toList w.bytes) :=
    congrArg Host.Outcome.next (takeCommand_unlessLoading hlistens hloaded hreply 0x10 record.toList)
  have applies {b : Byte} {w : Reply} (hreply : applyStaged b s = w) :
      exec (.applyRegion b) s = .next (w.state.answered 0x11 [b] w.bytes) :=
    congrArg Host.Outcome.next (takeCommand_unlessLoading hlistens hloaded hreply 0x11 [b])
  refine ⟨fun r e record hrecord => ⟨fun hidle => ?_, fun hbusy => ?_⟩, fun b => ⟨fun hbusy => ?_, fun hidle hbad => ?_,
    fun r hidle hvalid hb => ⟨fun hused => ?_, fun hunused => ?_⟩⟩⟩
  · rw [stages (stageReply_of_idle hidle), hrecord, unpackRegion_packRegion]
    rfl
  · rw [stages (stageReply_of_draining hbusy), hrecord]
    rfl
  · exact applies (applyStaged_of_draining hbusy)
  · exact applies (applyStaged_of_bad hidle hbad)
  · exact applies ((applyStaged_of_good hidle hvalid hb).trans (if_neg hused))
  · refine ⟨makeChange r s, applies ((applyStaged_of_good hidle hvalid hb).trans (if_pos hunused)), regions_makeChange r s,
      entries_makeChange r s, ?_⟩
    obtain ⟨g, es, q, o, hchange⟩ := makeChange_only r s
    have hregions : (makeChange r s).regions = s.regions.set r s.staging := by
      rw [makeChange]
      obtain ⟨es', q', o', h⟩ := discard_only (s.entriesWhere fun c => c.isStrand && decide (c.region = r))
        { kind := .strandsDiscarded, region := r } { s with regions := s.regions.set r s.staging }
      rw [h]
    intro gone changed
    split
    · rename_i hnone
      have unraised : makeChange r s = { s with regions := s.regions.set r s.staging } := if_pos hnone
      simp only [changed, unraised]
    · rename_i hsome
      have raised : makeChange r s = (freeEntries gone { s with regions := s.regions.set r s.staging }).raise
        { kind := .strandsDiscarded, region := r, countA := count16 gone.length, countB := count16 (beatsHeld gone) } :=
        if_neg hsome
      obtain ⟨es', hfreed⟩ := freeEntries_only gone { s with regions := s.regions.set r s.staging }
      simp only [changed, raised, hfreed]
      rfl

/-! ## DISCARD STRANDS (R104, R105) -/

/-- The strands of a scope (R104). -/
def State.strandsInScope (s : State) (scope region select : Byte) (address : Word) : List Numbered :=
  (s.entriesWhere CaptureEntry.isStrand).filter fun x => decide (scope = 0) ||
    (decide (scope = 1) && decide (x.2.region.val = region.toNat)) ||
    (decide (scope = 2) && decide (x.2.select.val = select.toNat) && (s.heldRange x.2).contains address.toNat)

/-- The STRANDS_DISCARDED record of a scope, less its counts (R105). -/
def scopeEvent (scope region select : Byte) (address : Word) : EventRecord :=
  { kind := .strandsDiscarded, tag := scope + 1, region := Fin.ofNat 16 (if scope = 1 then region.toNat else 0)
    select := Fin.ofNat 4 (if scope = 2 then select.toNat else 0), address := if scope = 2 then address else 0 }

/-- The parameters are out of range for the scope (R165). -/
abbrev BadScope (scope region select : Byte) (address : Word) : Prop :=
  2 < scope.toNat ∨ (scope = 1 ∧ 16 ≤ region.toNat) ∨ (scope = 2 ∧ (4 ≤ select.toNat ∨ 2 ^ 28 ≤ address.toNat))

section
variable {s : State} {scope region select : Byte} {address : Word}

theorem scope_cases (scope : Byte) : scope = 0 ∨ scope = 1 ∨ scope = 2 ∨ 2 < scope.toNat := by bv_omega

theorem discardCommand_of_bad (hbad : BadScope scope region select address) :
    discardCommand scope region select address s = ⟨.invalid, [], s⟩ := by
  obtain rfl | rfl | rfl | hscope := scope_cases scope
  · simp [BadScope] at hbad
  · have hregion : ¬region.toNat < 16 := by simpa [BadScope] using hbad
    simp [discardCommand, hregion]
  · have hplace : ¬(select.toNat < 4 ∧ address.toNat < 2 ^ 28) := by
      simp [BadScope] at hbad
      omega
    simp only [discardCommand, hplace, dif_neg, not_false_eq_true]
    rfl
  · have ne (n : Byte) (hn : n.toNat ≤ 2) : ¬scope = n := by rintro rfl; omega
    simp only [discardCommand, ne 0 (by decide), ne 1 (by decide), ne 2 (by decide), if_false]

theorem discardCommand_of_good (hgood : ¬BadScope scope region select address) :
    discardCommand scope region select address s =
      discardScope (s.strandsInScope scope region select address) (scopeEvent scope region select address) s := by
  obtain rfl | rfl | rfl | hscope := scope_cases scope
  · have all : s.strandsInScope 0 region select address = s.strands := by
      simp [State.strandsInScope, State.strands]
    rw [all]
    rfl
  · have hregion : region.toNat < 16 := by simpa [BadScope] using hgood
    have same : s.strandsInScope 1 region select address =
        s.strands.filter fun ec => decide (ec.2.region = ⟨region.toNat, hregion⟩) := by
      simp [State.strandsInScope, State.strands, Fin.ext_iff]
    have event : scopeEvent 1 region select address =
        { kind := .strandsDiscarded, tag := 2, region := ⟨region.toNat, hregion⟩ } := by
      simp [scopeEvent, Fin.ofNat, Nat.mod_eq_of_lt hregion]
    rw [same, event]
    simp only [discardCommand, hregion, dif_pos]
    rfl
  · have hplace : select.toNat < 4 ∧ address.toNat < 2 ^ 28 := by
      simp [BadScope] at hgood
      omega
    have same : s.strandsInScope 2 region select address = s.strands.filter fun ec =>
        decide (ec.2.select = ⟨select.toNat, hplace.1⟩) && (s.heldRange ec.2).contains address.toNat := by
      simp [State.strandsInScope, State.strands, Fin.ext_iff]
    have event : scopeEvent 2 region select address =
        { kind := .strandsDiscarded, tag := 3, select := ⟨select.toNat, hplace.1⟩, address := address } := by
      simp [scopeEvent, Fin.ofNat, Nat.mod_eq_of_lt hplace.1]
    rw [same, event]
    simp only [discardCommand, hplace, dif_pos, and_self]
    rfl
  · exact absurd (.inl hscope) hgood

/-- The entries that a discard names become FREE, the others stay. -/
theorem entries_discard_list (es : List Numbered) (event : EventRecord) (s : State) (e : EntryIx) :
    (discard es event s).entries[e] = if e ∈ es.map (·.1) then none else s.entries[e] := by
  rw [← entries_freeEntries]
  unfold discard
  split
  · rename_i hnone
    subst hnone
    rfl
  · rfl

end

/-- Settles O50: parameters in range discard the strands of the scope, with room for their event. -/
theorem discardingStrands : Obligations.DiscardingStrands := by
  intro scope region select address s hlistens hloaded params bad
  have discards {w : Reply} (hreply : discardCommand scope region select address s = w) :
      exec (.discardStrands scope region select address) s = .next (w.state.answered 0x30 params w.bytes) :=
    congrArg Host.Outcome.next (takeCommand_unlessLoading hlistens hloaded hreply 0x30 params)
  refine ⟨fun hbad => discards (discardCommand_of_bad hbad), fun hgood room => ?_⟩
  have raised := events_discard (s.strandsInScope scope region select address) (scopeEvent scope region select address) s room
  refine ⟨discard (s.strandsInScope scope region select address) (scopeEvent scope region select address) s,
    discards (discardCommand_of_good hgood), entries_discard_list _ _ s, raised.1, ?_⟩
  obtain ⟨es, q, o, hdiscard⟩ := discard_only (s.strandsInScope scope region select address)
    (scopeEvent scope region select address) s
  have flag := raised.2
  rw [hdiscard] at flag ⊢
  rw [← flag]

/-! ## The answers in LOADING (R162, R164) -/

section
variable {s : State}

/-- What a command of the port is: GET STATUS, another command of the table, which is BUSY in LOADING, or an unknown code. -/
theorem exec_of_encodeFrame {c : Instr} {code : Byte} {params : List Byte} (h : encodeFrame c = some (code :: params)) :
    (code = 0x01 ∧ params = [] ∧ ∀ s, exec c s = .next (takeCommand code params (answer statusRecord) s)) ∨
    (code ∈ Config.commandCodes ∧ ∃ act, ∀ s, exec c s = .next (takeCommand code params (unlessLoading act) s)) ∨
    c = .unknownCommand code ∧ params = [] := by
  cases c <;> cases h
  case getStatus => exact .inl ⟨rfl, rfl, fun _ => rfl⟩
  case unknownCommand => exact .inr (.inr ⟨rfl, rfl⟩)
  all_goals exact .inr (.inl ⟨by decide, _, fun _ => rfl⟩)

end

/-- Settles O45: a command of the table but GET STATUS replies BUSY in LOADING, and an unknown code is taken in every state. -/
theorem loadingAnswersBusy : Obligations.LoadingAnswersBusy := by
  intro c code params s hformed hframe hlistens
  refine ⟨fun hloading hcode hstatus => ?_, fun hcode => ?_⟩
  · obtain ⟨h01, -⟩ | ⟨-, act, hexec⟩ | ⟨rfl, -⟩ := exec_of_encodeFrame hframe
    · exact absurd h01 hstatus
    · have busy : unlessLoading act s = ⟨.busy, [], s⟩ := if_pos hloading
      rw [hexec, takeCommand_of_listens hlistens, busy]
      rfl
    · simp [Instr.wellFormed, hcode] at hformed
  · obtain ⟨rfl, -⟩ | ⟨hknown, -⟩ | ⟨rfl, rfl⟩ := exec_of_encodeFrame hframe
    · exact absurd (by decide) hcode
    · exact absurd hknown hcode
    · have unlisted : ¬Config.commandCodes.contains code = true := by simpa using hcode
      change execUnknownCommand code s = _
      rw [execUnknownCommand, if_neg unlisted, takeCommand_of_listens hlistens]
      rfl

end Sys2Proof.Machine
end

section
/-! SUPPORT. The records that the commands which read answer with, field by field, and the statement about these commands
(R166 to R170). -/

namespace Sys2Proof.Machine

/-! ## Reading a field of a record -/

theorem byte_toNat (n : Nat) : (byte n).toNat = n % 256 := BitVec.toNat_ofNat n 8

theorem byte_toNat_of_lt {n : Nat} (h : n < 256) : (byte n).toNat = n := (byte_toNat n).trans (Nat.mod_eq_of_lt h)

/-- A field of one byte, where that byte is known. -/
theorem littleAt_byte {bs : List Byte} {k n : Nat} (h : bs.getD k 0 = byte n) (hn : n < 256) : littleAt bs k 1 = n := by
  rw [littleAt_one, h, byte_toNat_of_lt hn]

theorem bitsAt_byte {bs : List Byte} {k n : Nat} (h : bs.getD k 0 = byte n) (hn : n < 256) (lo m : Nat) :
    bitsAt bs k lo m = n / 2 ^ lo % 2 ^ m := by
  rw [bitsAt, h, byte_toNat_of_lt hn]

/-- Where a record goes on with the bytes of a number, its field there is the number as far as it fits. -/
theorem littleAt_mod_of_drop {bs rest : List Byte} {k n v : Nat} (hdrop : bs.drop k = leBytes n v ++ rest) :
    littleAt bs k n = v % 256 ^ n := by
  have fits : leBytes n v = leBytes n (v % 256 ^ n) := by
    refine List.map_congr_left fun j hj => ?_
    obtain ⟨d, rfl⟩ := Nat.exists_eq_add_of_lt (List.mem_range.1 hj)
    apply BitVec.eq_of_toNat_eq
    rw [BitVec.toNat_ofNat, BitVec.toNat_ofNat, Nat.shiftRight_eq_div_pow, Nat.shiftRight_eq_div_pow, Nat.pow_mul]
    have split : 256 ^ (j + d + 1) = 256 ^ j * (256 * 256 ^ d) := by ring
    change v / 256 ^ j % 256 = v % 256 ^ (j + d + 1) / 256 ^ j % 256
    rw [split, Nat.mod_mul_right_div_self, Nat.mod_mul_right_mod]
  rw [fits] at hdrop
  exact littleAt_of_drop hdrop (Nat.mod_lt _ (Nat.pow_pos (by decide)))

theorem littleAt_add (bs : List Byte) (k j n : Nat) : littleAt bs (k + j) n = littleAt (bs.drop k) j n := by
  simp only [littleAt, List.getD_eq_getElem?_getD, List.getElem?_drop, Nat.add_assoc]

/-- Beat `k` of the eight slots. -/
theorem littleAt_beatSlots (beats : List Word) (k : Fin 8) :
    littleAt (beatSlots beats) (4 * k.val) 4 = (beats.getD k.val 0).toNat := by
  have fitting (j : Nat) : (beats.getD j 0).toNat < 256 ^ 4 := (beats.getD j 0).isLt
  fin_cases k
  on_goal 8 => exact littleAt_of_drop (List.append_nil _).symm (fitting 7)
  all_goals exact littleAt_of_drop rfl (fitting _)

/-- The beats that the entries of a kind hold, counted entry by entry. -/
theorem beatsHeld_entriesWhere (f : CaptureEntry → Bool) (s : State) : beatsHeld (s.entriesWhere f) =
    ((List.finRange 32).map fun e : EntryIx => ((s.entries[e]).filter f).elim 0 fun c => c.beats.length).sum := by
  rw [beatsHeld, State.entriesWhere]
  induction List.finRange 32 with
  | nil => rfl
  | cons e es ih =>
    obtain he | ⟨c, he⟩ := (s.entries[e]).eq_none_or_eq_some
    · simp only [List.filterMap_cons, List.map_cons, List.sum_cons, he, Option.filter_none, Option.elim_none, ih, Nat.zero_add]
    · cases hf : f c with
      | false =>
        simp only [List.filterMap_cons, List.map_cons, List.sum_cons, he, hf, Option.filter_some, Option.elim_none, ih,
          Nat.zero_add, Bool.false_eq_true, if_false]
      | true =>
        simp only [List.filterMap_cons, List.map_cons, List.sum_cons, he, hf, Option.filter_some, Option.elim_some, ih,
          if_true]

/-! ## The status record (R167) -/

theorem OperatingState.code_lt (o : OperatingState) : o.code < 256 := by cases o <;> decide
theorem ImageResult.code_lt (o : ImageResult) : o.code < 256 := by cases o <;> decide

theorem countP_finRange_le {n : Nat} (f : Fin n → Bool) : (List.finRange n).countP f ≤ n :=
  List.countP_le_length.trans_eq List.length_finRange

theorem State.length_strands (s : State) : s.strands.length =
    (List.finRange 32).countP fun e : EntryIx => (s.entries[e]).any CaptureEntry.isStrand := State.length_entriesWhere _ s

theorem State.liveOf_eq (s : State) (i : Initiator) :
    s.liveOf i = (List.finRange 16).countP fun t : Tag => (s.tag ⟨i, t⟩).isSome := by
  rw [State.liveOf, pairsOf, List.countP_map]
  rfl

theorem statusLayout_statusRecord (s : State) : StatusLayout s (statusRecord s) := by
  have hfree : s.freeCount < 256 := (countP_finRange_le _).trans_lt (by decide)
  have hstrands : s.strands.length < 256 := s.length_strands ▸ (countP_finRange_le _).trans_lt (by decide)
  have hslots : s.slotsInUse < 256 := (countP_finRange_le _).trans_lt (by decide)
  have hlive (i : Initiator) : s.liveOf i < 256 := s.liveOf_eq i ▸ (countP_finRange_le _).trans_lt (by decide)
  have hflags : s.overflow.toNat ≤ 1 ∧ s.latch.toNat ≤ 1 ∧ s.alert.toNat ≤ 1 :=
    ⟨Bool.toNat_le _, Bool.toNat_le _, Bool.toNat_le _⟩
  have flags (lo m : Nat) : bitsAt (statusRecord s) 17 lo m =
      (s.overflow.toNat + 2 * s.latch.toNat + 4 * s.alert.toNat) / 2 ^ lo % 2 ^ m := bitsAt_byte rfl (by omega) lo m
  refine ⟨rfl, ?_, ?_, fun hidle => ?_, fun r n hdrain => ?_, littleAt_byte rfl hfree, ?_, ?_, fun i => ?_,
    littleAt_byte rfl hslots, ?_, ?_, ?_, ?_, littleAt_of_drop (List.append_nil _).symm s.timebase.isLt⟩
  · exact (littleAt_byte rfl s.operating.code_lt).trans (by cases s.operating <;> rfl)
  · exact (littleAt_byte rfl s.image.code_lt).trans (by cases s.image <;> rfl)
  · have hbyte : (statusRecord s).getD 2 0 = byte 0 := by
      change byte (match s.apply with | .idle => 0 | .draining r _ => 1 + 16 * r.val) = _
      rw [hidle]
    exact littleAt_byte hbyte (by decide)
  · have hbyte : (statusRecord s).getD 2 0 = byte (1 + 16 * r.val) := by
      change byte (match s.apply with | .idle => 0 | .draining r _ => 1 + 16 * r.val) = _
      rw [hdrain]
    have bits := bitsAt_byte hbyte (by omega)
    exact ⟨(bits 0 4).trans (by omega), (bits 4 4).trans (by omega)⟩
  · exact (littleAt_byte rfl hstrands).trans s.length_strands
  · refine (littleAt_mod_of_drop rfl).trans ?_
    rw [← beatsHeld_entriesWhere]
    rfl
  · have hbyte : (statusRecord s).getD (7 + i.val) 0 = byte (s.liveOf i) := by
      fin_cases i <;> rfl
    exact (littleAt_byte hbyte (hlive i)).trans (s.liveOf_eq i)
  · have hbyte : (statusRecord s).getD 16 0 = byte s.events.length := rfl
    rw [littleAt_one, hbyte, byte_toNat]
    rfl
  · exact (flags 0 1).trans (by omega)
  · exact (flags 1 1).trans (by omega)
  · exact (flags 2 6).trans (by omega)

/-! ## Region records (R166) -/

theorem regionLayout_packRegion (r : RegionIx) (e : RegionEntry) : RegionLayout r e (packRegion r e) := by
  have hlock : e.lock.toNat ≤ 1 := Bool.toNat_le _
  have low (lo m : Nat) : bitsAt (packRegion r e) 0 lo m =
      (r.val + 16 * e.cls.toNat + 128 * e.lock.toNat) / 2 ^ lo % 2 ^ m := by
    rw [← byteAt_zero_packRegion]
    rfl
  have target : littleAt (packRegion r e) 7 4 = e.targetBase.toNat + 2 ^ 28 * e.select.val + 2 ^ 30 * e.mode.toNat :=
    littleAt_of_drop rfl (by omega)
  have limits : littleAt (packRegion r e) 11 3 = e.verdictLimit.toNat + 2 ^ 12 * e.lockLimit.toNat :=
    littleAt_of_drop rfl (by omega)
  have high (lo m : Nat) : bitsAt (packRegion r e) 10 lo m =
      (e.targetBase.toNat + 2 ^ 28 * e.select.val + 2 ^ 30 * e.mode.toNat) / 2 ^ 24 / 2 ^ lo % 2 ^ m := by
    refine bitsAt_byte ?_ (by omega) lo m
    rw [← Nat.shiftRight_eq_div_pow]
    rfl
  refine ⟨rfl, (low 0 4).trans (by omega), (low 4 3).trans (by omega), (low 7 1).trans (by omega), littleAt_one _ _,
    littleAt_one _ _, littleAt_of_drop rfl e.hostBase.isLt, ?_, (high 4 2).trans (by omega), (high 6 2).trans (by omega), ?_,
    ?_, littleAt_of_drop (List.append_nil _).symm e.strandWindow.isLt⟩
  · rw [target]; omega
  · rw [limits]; omega
  · rw [limits]; omega

/-! ## Tag records (R168) -/

theorem BeatSize.bytes_le (size : BeatSize) : size.bytes ≤ 4 := by cases size <;> decide

section
variable (r : TagRecord)

/-- The byte of the flags and the position. -/
theorem bitsAt_liveTagRecord_two (lo m : Nat) : bitsAt (liveTagRecord r) 2 lo m =
    (r.speculative.toNat + 2 * (decide (r.verdict = .committed)).toNat + 4 * r.position.code +
      16 * (decide (r.response = .sent)).toNat + 32 * r.mark.toNat + 64 * r.place.isSome.toNat +
      128 * r.entry.isSome.toNat) / 2 ^ lo % 2 ^ m := by
  have hposition : r.position.code ≤ 2 := by cases r.position <;> decide
  have bits (b : Bool) : b.toNat ≤ 1 := Bool.toNat_le b
  have h1 := bits r.speculative
  have h2 := bits (decide (r.verdict = .committed))
  have h3 := bits (decide (r.response = .sent))
  have h4 := bits r.mark
  have h5 := bits r.place.isSome
  have h6 := bits r.entry.isSome
  exact bitsAt_byte rfl (by omega) lo m

theorem littleAt_liveTagRecord_data (k : Fin 8) :
    littleAt (liveTagRecord r) (16 + 4 * k.val) 4 = (r.data.getD k.val 0).toNat :=
  (littleAt_add _ _ _ _).trans (littleAt_beatSlots r.data k)

/-- The start address of the place, 0 without one. -/
theorem littleAt_liveTagRecord_start :
    littleAt (liveTagRecord r) 5 4 = (match r.place with
      | some pl => pl.start.toNat
      | none => 0) := by
  refine littleAt_of_drop rfl ?_
  cases r.place with
  | none => exact (by decide : 0 < 256 ^ 4)
  | some pl => exact pl.start.isLt.trans (by decide)

/-- The fields of a record's place. -/
theorem placeLayout_liveTagRecord {pl : Place} (h : r.place = some pl) :
    bitsAt (liveTagRecord r) 3 0 4 = pl.region.val ∧ bitsAt (liveTagRecord r) 3 4 2 = pl.select.val ∧
    bitsAt (liveTagRecord r) 3 6 2 = pl.cls.code ∧
    bitsAt (liveTagRecord r) 4 3 1 = (decide (pl.mode = .step)).toNat ∧ littleAt (liveTagRecord r) 5 4 = pl.start.toNat := by
  have hcls : pl.cls.code ≤ 3 := by cases pl.cls <;> decide
  have hmode : pl.mode.code = (decide (pl.mode = .step)).toNat := by cases pl.mode <;> rfl
  have hstep : pl.mode.code ≤ 1 := hmode ▸ Bool.toNat_le _
  have hsize := r.size.bytes_le
  have third : (liveTagRecord r).getD 3 0 = byte (pl.region.val + 16 * pl.select.val + 64 * pl.cls.code) := by
    change byte (match r.place with | some pl => _ | none => _) = _
    rw [h]
  have fourth : (liveTagRecord r).getD 4 0 = byte (r.size.bytes + 8 * pl.mode.code + 16 * r.count) := by
    change byte (_ + 8 * (match r.place with | some pl => _ | none => _) + _) = _
    rw [h]
  have bits := bitsAt_byte third (by omega)
  refine ⟨(bits 0 4).trans (by omega), (bits 4 2).trans (by omega), (bits 6 2).trans (by omega), ?_, ?_⟩
  · rw [bitsAt, fourth, byte_toNat, ← hmode]
    omega
  · rw [littleAt_liveTagRecord_start, h]

theorem noPlaceLayout_liveTagRecord (h : r.place = none) :
    littleAt (liveTagRecord r) 3 1 = 0 ∧ bitsAt (liveTagRecord r) 4 3 1 = 0 ∧ littleAt (liveTagRecord r) 5 4 = 0 := by
  have hsize := r.size.bytes_le
  have third : (liveTagRecord r).getD 3 0 = byte 0 := by
    change byte (match r.place with | some pl => _ | none => _) = _
    rw [h]
  have fourth : (liveTagRecord r).getD 4 0 = byte (r.size.bytes + 8 * 0 + 16 * r.count) := by
    change byte (_ + 8 * (match r.place with | some pl => _ | none => _) + _) = _
    rw [h]
  refine ⟨littleAt_byte third (by decide), ?_, ?_⟩
  · rw [bitsAt, fourth, byte_toNat]
    omega
  · rw [littleAt_liveTagRecord_start, h]

/-- The byte of the beat size and the beat count. -/
theorem sizeLayout_liveTagRecord :
    bitsAt (liveTagRecord r) 4 0 3 = r.size.bytes ∧ bitsAt (liveTagRecord r) 4 4 4 = r.count % 2 ^ 4 := by
  have hsize := r.size.bytes_le
  have fourth : ∃ m ≤ 1, (liveTagRecord r).getD 4 0 = byte (r.size.bytes + 8 * m + 16 * r.count) := by
    refine ⟨_, ?_, rfl⟩
    cases r.place with
    | none => exact Nat.zero_le _
    | some pl =>
      change pl.mode.code ≤ 1
      cases pl.mode <;> decide
  obtain ⟨m, hm, hbyte⟩ := fourth
  rw [bitsAt, bitsAt, hbyte, byte_toNat]
  constructor <;> omega

theorem tagLayout_liveTagRecord : TagLayout r (liveTagRecord r) := by
  have hkind : r.kind.code < 256 := by cases r.kind <;> decide
  have hposition : r.position.code ≤ 2 := by cases r.position <;> decide
  have flags := bitsAt_liveTagRecord_two r
  have bits (b : Bool) : b.toNat ≤ 1 := Bool.toNat_le b
  have h1 := bits r.speculative
  have h2 := bits (decide (r.verdict = .committed))
  have h3 := bits (decide (r.response = .sent))
  have h4 := bits r.mark
  have h5 := bits r.place.isSome
  have h6 := bits r.entry.isSome
  obtain ⟨hsize, hcount⟩ := sizeLayout_liveTagRecord r
  refine ⟨rfl, littleAt_byte (n := 1) rfl (by decide), (littleAt_byte rfl hkind).trans (by cases r.kind <;> rfl),
    (flags 0 1).trans (by omega), (flags 1 1).trans (by omega), ((flags 2 2).trans (by omega : _ = r.position.code)).trans
      (by cases r.position <;> rfl), (flags 4 1).trans (by omega), (flags 5 1).trans (by omega), (flags 6 1).trans (by omega),
    (flags 7 1).trans (by omega), noPlaceLayout_liveTagRecord r, fun pl hpl => ?_, hsize, hcount, littleAt_mod_of_drop rfl, ?_,
    ?_, littleAt_liveTagRecord_data r⟩
  · obtain ⟨hregion, hselect, hcls, hmode, hstart⟩ := placeLayout_liveTagRecord r hpl
    exact ⟨hregion, hselect, hcls.trans (by cases pl.cls <;> rfl), hmode, hstart⟩
  · cases hentry : r.entry with
    | none =>
      refine littleAt_byte (n := 0) ?_ (by decide)
      change byte (match r.entry with | some e => e.val | none => 0) = _
      rw [hentry]
    | some e =>
      refine littleAt_byte (n := e.val) ?_ (e.isLt.trans (by decide))
      change byte (match r.entry with | some e => e.val | none => 0) = _
      rw [hentry]
  · refine (littleAt_mod_of_drop rfl).trans ?_
    cases r.timer <;> rfl

end

/-! ## Capture records (R169) -/

theorem entryLayout_usedEntryRecord (c : CaptureEntry) : EntryLayout c (usedEntryRecord c) := by
  have hsize := c.size.bytes_le
  have hmode : c.mode.code = (decide (c.mode = .step)).toNat := by cases c.mode <;> rfl
  have hstep : c.mode.code ≤ 1 := hmode ▸ Bool.toNat_le _
  have third := bitsAt_byte (bs := usedEntryRecord c) (k := 2) (n := c.region.val + 16 * c.select.val + 64 * c.mode.code) rfl
    (by omega)
  have fourth : (usedEntryRecord c).getD 3 0 = byte (c.size.bytes + 16 * c.beats.length) := rfl
  refine ⟨rfl, ?_, (third 0 4).trans (by omega), (third 4 2).trans (by omega), ((third 6 2).trans (by omega)).trans hmode, ?_, ?_,
    littleAt_of_drop rfl (c.start.isLt.trans (by decide)), fun k => (littleAt_add _ _ _ _).trans (littleAt_beatSlots _ k)⟩
  · have bits {d : CaptureEntry} (n lo m : Nat) (h : (usedEntryRecord d).getD 0 0 = byte n) (hn : n < 256) :
        bitsAt (usedEntryRecord d) 0 lo m = n / 2 ^ lo % 2 ^ m := bitsAt_byte h hn lo m
    obtain ⟨state, region, select, start, size, mode, window, beats, allocation⟩ := c
    cases state with
    | filling b n =>
      cases b with
      | none =>
        exact ⟨bits 1 0 7 rfl (by decide), bits 1 7 1 rfl (by decide), (littleAt_one _ _).trans (byte_toNat n),
          fun _ => littleAt_byte (n := 0) rfl (by decide), nofun,
          littleAt_of_drop (v := 0) rfl (by decide), littleAt_of_drop (v := 0xFFFFFF) rfl (by decide)⟩
      | some p =>
        refine ⟨bits (1 + 128) 0 7 rfl (by decide), bits (1 + 128) 7 1 rfl (by decide),
          (littleAt_one _ _).trans (byte_toNat n), nofun, ?_,
          littleAt_of_drop (v := 0) rfl (by decide), littleAt_of_drop (v := 0xFFFFFF) rfl (by decide)⟩
        rintro _ ⟨⟩
        have second := bitsAt_byte (bs := usedEntryRecord ⟨.filling (some p) n, region, select, start, size, mode, window, beats,
          allocation⟩) (k := 1) (n := p.initiator.val + 16 * p.tag.val) rfl (by omega)
        exact ⟨(second 0 4).trans (by omega), (second 4 4).trans (by omega)⟩
    | captured p =>
      have second := bitsAt_byte (bs := usedEntryRecord ⟨.captured p, region, select, start, size, mode, window, beats,
        allocation⟩) (k := 1) (n := p.initiator.val + 16 * p.tag.val) rfl (by omega)
      exact ⟨bits (2 + 128) 0 7 rfl (by decide), bits (2 + 128) 7 1 rfl (by decide),
        (second 0 4).trans (by omega), (second 4 4).trans (by omega), littleAt_byte (n := 0) rfl (by decide),
        littleAt_of_drop (v := 0) rfl (by decide), littleAt_of_drop (v := 0xFFFFFF) rfl (by decide)⟩
    | stranded n t =>
      refine ⟨littleAt_byte (n := 3) rfl (by decide), littleAt_byte (n := 0) rfl (by decide),
        littleAt_byte (n := 0) rfl (by decide), littleAt_mod_of_drop rfl, ?_⟩
      cases t with
      | none => exact littleAt_of_drop (v := 0xFFFFFF) rfl (by decide)
      | some k => exact littleAt_mod_of_drop rfl
  · rw [bitsAt, fourth, byte_toNat]; omega
  · rw [bitsAt, fourth, byte_toNat]; omega

/-! ## The reservation record (R170) -/

theorem length_slotRecord (v : Option Reservation) : (slotRecord v).length = 12 := by
  cases v <;> rfl

theorem slotLayout_slotRecord (v : Reservation) : SlotLayout v (slotRecord (some v)) := by
  obtain ⟨initiator, select, granule, region, state, lockRead⟩ := v
  have first := bitsAt_byte (bs := slotRecord (some ⟨initiator, select, granule, region, state, lockRead⟩)) (k := 1)
    (n := initiator.val + 16 * select.val) rfl (by omega)
  refine ⟨?_, (first 0 4).trans (by change _ = initiator.val; omega), (first 4 4).trans (by change _ = select.val; omega),
    littleAt_byte rfl (region.isLt.trans (by decide)),
    littleAt_of_drop rfl (granule.isLt.trans (by decide)), ?_, ?_, littleAt_byte (n := 0) rfl (by decide)⟩
  · cases state with
    | reserved n =>
      exact ⟨littleAt_byte (n := 1) rfl (by decide), littleAt_mod_of_drop rfl, littleAt_byte (n := 0) rfl (by decide)⟩
    | writing t =>
      have tenth := bitsAt_byte (bs := slotRecord (some ⟨initiator, select, granule, region, .writing t, lockRead⟩)) (k := 10)
        (n := t.val + 128) rfl (by omega)
      exact ⟨littleAt_byte (n := 2) rfl (by decide), littleAt_of_drop (v := 0xFFFF) rfl (by decide),
        (tenth 0 7).trans (by omega), (tenth 7 1).trans (by omega)⟩
  · rintro ⟨⟩
    exact littleAt_byte (n := 0) rfl (by decide)
  · rintro t ⟨⟩
    have ninth := bitsAt_byte (bs := slotRecord (some ⟨initiator, select, granule, region, state, some t⟩)) (k := 9)
      (n := t.val + 128) rfl (by omega)
    exact ⟨(ninth 0 7).trans (by omega), (ninth 7 1).trans (by omega)⟩

section
variable (s : State)

theorem reservationRecord_eq : reservationRecord s =
    slotRecord s.slots[(0 : SlotIx)] ++ (slotRecord s.slots[(1 : SlotIx)] ++ (slotRecord s.slots[(2 : SlotIx)] ++
      (slotRecord s.slots[(3 : SlotIx)] ++
        [byte (((List.finRange 8).map fun i => (s.lockLost[i]).toNat * 2 ^ i.val).sum)]))) := by
  have four : List.finRange 4 = [0, 1, 2, 3] := by decide
  simp only [reservationRecord, four, List.flatMap_cons, List.flatMap_nil, List.append_assoc, List.nil_append]

theorem length_reservationRecord : (reservationRecord s).length = 49 := by
  simp [reservationRecord_eq, length_slotRecord]

theorem slotRecord_of_reservationRecord (k : SlotIx) :
    ((reservationRecord s).drop (12 * k.val)).take 12 = slotRecord s.slots[k] := by
  rw [reservationRecord_eq]
  match k with
  | 0 => simp [length_slotRecord]
  | 1 => simp [length_slotRecord]
  | 2 => simp [List.drop_append, length_slotRecord, List.drop_of_length_le]
  | 3 => simp [List.drop_append, length_slotRecord, List.drop_of_length_le]

/-- A bit of a number that is given by its eight bits. -/
theorem bit_of_sum (f : Fin 8 → Nat) (hf : ∀ i, f i ≤ 1) (i : Fin 8) :
    ((List.finRange 8).map fun j => f j * 2 ^ j.val).sum % 256 / 2 ^ i.val % 2 ^ 1 = f i := by
  have eight : List.finRange 8 = [0, 1, 2, 3, 4, 5, 6, 7] := by decide
  have h0 := hf 0
  have h1 := hf 1
  have h2 := hf 2
  have h3 := hf 3
  have h4 := hf 4
  have h5 := hf 5
  have h6 := hf 6
  have h7 := hf 7
  rw [eight]
  fin_cases i <;> simp <;> omega

theorem bitsAt_lockLost (i : Initiator) : bitsAt (reservationRecord s) 48 i.val 1 = (s.lockLost[i]).toNat := by
  have flag (j : Initiator) : (s.lockLost[j]).toNat ≤ 1 := Bool.toNat_le _
  have last : (reservationRecord s).getD 48 0 =
      byte (((List.finRange 8).map fun i => (s.lockLost[i]).toNat * 2 ^ i.val).sum) := by
    rw [reservationRecord_eq]
    simp [length_slotRecord]
  rw [bitsAt, last, byte_toNat]
  exact bit_of_sum (fun j => (s.lockLost[j]).toNat) flag i

end

/-- Settles O44: each command replies with its record, or INVALID, and the records have their layouts. -/
theorem readCommandsAnswerSnapshots : Obligations.ReadCommandsAnswerSnapshots := by
  intro s hlistens
  refine ⟨⟨congrArg Host.Outcome.next (takeCommand_of_listens hlistens 0x01 [] _), statusLayout_statusRecord s⟩,
    fun hloaded => ⟨fun b => ⟨fun r hr => ⟨?_, regionLayout_packRegion r _⟩, fun hhigh => ?_⟩,
      fun b d => ⟨fun p hb hd => ⟨?_, fun hfree => by rw [tagRecordBytes, hfree], fun r hr => ?_⟩, fun hhigh => ?_⟩,
      fun b => ⟨fun e he => ⟨?_, fun hfree => by rw [entryRecordBytes, hfree], fun c hc => ?_⟩, fun hhigh => ?_⟩, ?_,
      length_reservationRecord s, fun k => ⟨fun hfree => ?_, fun v hv => ?_⟩, bitsAt_lockLost s⟩⟩
  · have hlow : b.toNat < 16 := hr ▸ r.isLt
    refine (congrArg Host.Outcome.next (takeCommand_unlessLoading hlistens hloaded (dif_pos hlow) 0x12 [b])).trans ?_
    obtain rfl : (⟨b.toNat, hlow⟩ : RegionIx) = r := Fin.ext hr
    rfl
  · have habove : ¬b.toNat < 16 := Nat.not_lt.2 hhigh
    exact congrArg Host.Outcome.next ((takeCommand_unlessLoading hlistens hloaded (dif_neg habove) 0x12 [b]).trans rfl)
  · have hlow : b.toNat < 8 ∧ d.toNat < 16 := ⟨hb ▸ p.initiator.isLt, hd ▸ p.tag.isLt⟩
    refine (congrArg Host.Outcome.next (takeCommand_unlessLoading hlistens hloaded (dif_pos hlow) 0x20 [b, d])).trans ?_
    obtain rfl : (⟨⟨b.toNat, hlow.1⟩, ⟨d.toNat, hlow.2⟩⟩ : Pair) = p := by
      obtain ⟨i, t⟩ := p
      rw [Pair.mk.injEq]
      exact ⟨Fin.ext hb, Fin.ext hd⟩
    rfl
  · rw [tagRecordBytes, hr]
    exact tagLayout_liveTagRecord r
  · have habove : ¬(b.toNat < 8 ∧ d.toNat < 16) := by omega
    exact congrArg Host.Outcome.next ((takeCommand_unlessLoading hlistens hloaded (dif_neg habove) 0x20 [b, d]).trans rfl)
  · have hlow : b.toNat < 32 := he ▸ e.isLt
    refine (congrArg Host.Outcome.next (takeCommand_unlessLoading hlistens hloaded (dif_pos hlow) 0x21 [b])).trans ?_
    obtain rfl : (⟨b.toNat, hlow⟩ : EntryIx) = e := Fin.ext he
    rfl
  · rw [entryRecordBytes, hc]
    exact entryLayout_usedEntryRecord c
  · have habove : ¬b.toNat < 32 := Nat.not_lt.2 hhigh
    exact congrArg Host.Outcome.next ((takeCommand_unlessLoading hlistens hloaded (dif_neg habove) 0x21 [b]).trans rfl)
  · exact congrArg Host.Outcome.next (takeCommand_unlessLoading hlistens hloaded rfl 0x22 [])
  · rw [slotRecord_of_reservationRecord, hfree]
    rfl
  · rw [slotRecord_of_reservationRecord, hv]
    exact slotLayout_slotRecord v

end Sys2Proof.Machine
end

section
/-! SUPPORT. Commands, messages and responses read back from what they are encoded as, and the statement about that. -/

namespace Sys2Proof.Machine

/-! ## Frames (R165) -/

theorem ofBytes_leBytes_of_lt {k n : Nat} (h : n < 256 ^ k) : ofBytes (leBytes k n) = n := by
  rw [ofBytes_leBytes, Nat.mod_eq_of_lt h]

theorem recordParam_toList (record : Vector Byte 16) : recordParam record.toList = record := by
  ext i hi
  simp [recordParam]

/-- The bytes of a well-formed command are its code and exactly its parameters, which give the command. -/
theorem commandOf_encodeFrame {c : Instr} {code : Byte} {params : List Byte} (hformed : c.wellFormed = true)
    (hframe : encodeFrame c = some (code :: params)) :
    params.length = paramBytes code ∧ commandOf code params = c := by
  cases c <;> cases hframe
  case setAlertMask mask =>
    refine ⟨length_leBytes 3 _, congrArg Instr.setAlertMask ?_⟩
    rw [ofBytes_leBytes_of_lt mask.isLt, BitVec.ofNat_toNat, BitVec.setWidth_eq]
  case stageRegion record => exact ⟨record.size_toArray, congrArg Instr.stageRegion (recordParam_toList record)⟩
  case discardStrands scope region select address =>
    refine ⟨rfl, congrArg (Instr.discardStrands scope region select) ?_⟩
    change BitVec.ofNat 32 (ofBytes (leBytes 4 address.toNat)) = address
    rw [ofBytes_leBytes_of_lt address.isLt, BitVec.ofNat_toNat, BitVec.setWidth_eq]
  case unknownCommand =>
    have unlisted : code ∉ Config.commandCodes := by simpa [Instr.wellFormed] using hformed
    have ne {d : Byte} (hd : d ∈ Config.commandCodes) : ¬code = d := fun h => unlisted (h ▸ hd)
    simp only [Config.commandCodes, List.mem_cons, not_or, List.not_mem_nil, not_false_eq_true, and_true] at unlisted
    obtain ⟨h1, h2, h3, h4, h5, h6, h7, h8, h9, h10, h11, h12, h13, h14, h15⟩ := unlisted
    simp only [paramBytes, commandOf, h1, h2, h3, h4, h5, h6, h7, h8, h9, h10, h11, h12, h13, h14, h15, if_false,
      List.length_nil, and_self]
  all_goals exact ⟨rfl, rfl⟩

theorem encodeFrame_ne_nil (c : Instr) : encodeFrame c ≠ some [] := by
  intro h
  cases c <;> cases h

/-- Every command of the port has a code. -/
theorem encodeFrame_eq_cons {c : Instr} {bytes : List Byte} (hframe : encodeFrame c = some bytes) :
    ∃ code params, bytes = code :: params := by
  cases bytes with
  | nil => exact absurd hframe (encodeFrame_ne_nil c)
  | cons code params => exact ⟨code, params, rfl⟩

theorem decodeFrame_append {c : Instr} {bytes : List Byte} (hformed : c.wellFormed = true)
    (hframe : encodeFrame c = some bytes) (more : List Byte) : decodeFrame (bytes ++ more) = some c := by
  obtain ⟨code, params, rfl⟩ := encodeFrame_eq_cons hframe
  obtain ⟨hlength, hcommand⟩ := commandOf_encodeFrame hformed hframe
  have long : ¬(params ++ more).length < paramBytes code := by simp [hlength]
  have whole : (params ++ more).take (paramBytes code) = params := by rw [← hlength, List.take_left]
  change (if (params ++ more).length < paramBytes code then none
    else some (commandOf code ((params ++ more).take (paramBytes code)))) = _
  rw [if_neg long, whole, hcommand]

/-- Fewer bytes than the command has are a short frame. -/
theorem decodeFrame_of_short {code : Byte} {ps : List Byte} (h : ps.length < paramBytes code) :
    decodeFrame (code :: ps) = none := if_pos h

theorem decodeFrame_eq_none_iff_short (code : Byte) (ps : List Byte) :
    decodeFrame (code :: ps) = none ↔ ps.length < paramBytes code := by
  simp [decodeFrame]

/-- The table gives each code that has parameters their number. -/
theorem lt_paramBytes_iff (code : Byte) (m : Nat) :
    m < paramBytes code ↔ ∃ n : Nat, (code, n) ∈ parameterTable ∧ m < n := by
  have listed : ∀ code : Byte, 0 < paramBytes code → (code, paramBytes code) ∈ parameterTable := by decide
  have numbers : ∀ x ∈ parameterTable, paramBytes x.1 = x.2 := by decide
  constructor
  · intro h
    exact ⟨_, listed code (Nat.zero_lt_of_lt h), h⟩
  · rintro ⟨n, hn, h⟩
    exact (numbers _ hn).symm ▸ h

/-! ## Messages (R24) -/

theorem BitVec.three_cases (k : BitVec 3) : k = 0 ∨ k = 1 ∨ k = 2 ∨ k = 3 ∨ k = 4 ∨ k = 5 ∨ k = 6 ∨ k = 7 := by
  revert k
  decide

theorem decodeMessage_encodeMessage {c : Instr} {m : LinkMessage} (h : encodeMessage c = some m) : decodeMessage m = c := by
  cases c <;> cases h <;> rfl

theorem encodeMessage_decodeMessage (m : LinkMessage) : ∃ m' : LinkMessage, encodeMessage (decodeMessage m) = some m' ∧
    m'.kind = m.kind ∧ (m.kind.toNat < 5 → m' = m) := by
  obtain ⟨kind, fields⟩ := m
  obtain rfl | rfl | rfl | rfl | rfl | rfl | rfl | rfl := BitVec.three_cases kind
  case inl | inr.inl | inr.inr.inl | inr.inr.inr.inl | inr.inr.inr.inr.inl => exact ⟨_, rfl, rfl, fun _ => rfl⟩
  case inr.inr.inr.inr.inr.inl => exact ⟨_, rfl, rfl, fun h => absurd h (lt_irrefl 5)⟩
  case inr.inr.inr.inr.inr.inr.inl => exact ⟨_, rfl, rfl, fun h => absurd h (by decide : ¬6 < 5)⟩
  case inr.inr.inr.inr.inr.inr.inr => exact ⟨_, rfl, rfl, fun h => absurd h (by decide : ¬7 < 5)⟩

/-! ## Responses (R24) -/

theorem statusNames_code (st : Status) : statusNames[st.code.toNat]? = some st := by cases st <;> rfl

theorem reasonNames_code (why : Reason) : reasonNames[why.code.toNat]? = some why := by cases why <;> rfl

theorem Status.code_injective {a b : Status} (h : a.code = b.code) : a = b :=
  Option.some_inj.1 ((statusNames_code a).symm.trans (h ▸ statusNames_code b))

theorem Reason.code_injective {a b : Reason} (h : a.code = b.code) : a = b :=
  Option.some_inj.1 ((reasonNames_code a).symm.trans (h ▸ reasonNames_code b))

theorem encodeResponse_injective {r q : Response} (h : encodeResponse r = encodeResponse q)
    (hbeats : ∀ p status n beats, r = .data p status n beats ∨ q = .data p status n beats → n ≤ 8) : r = q := by
  cases r <;> cases q <;>
    simp only [encodeResponse, LinkResponse.mk.injEq, BitVec.reduceEq, false_and, true_and, and_true] at h
  case data.data p st n beats p' st' n' beats' =>
    obtain ⟨hi, ht, hcode, -, hn, hslots⟩ := h
    have hn8 : n ≤ 8 := hbeats p st n beats (.inl rfl)
    have hn8' : n' ≤ 8 := hbeats p' st' n' beats' (.inr rfl)
    have hcount : n = n' := by
      have hmod := congrArg BitVec.toNat hn
      rw [BitVec.toNat_ofNat, BitVec.toNat_ofNat] at hmod
      omega
    obtain ⟨i, t⟩ := p
    obtain ⟨i', t'⟩ := p'
    rw [show i = i' from hi, show t = t' from ht, Status.code_injective hcode, hcount, hslots]
  case ack.ack p st p' st' =>
    obtain ⟨i, t⟩ := p
    obtain ⟨i', t'⟩ := p'
    obtain ⟨hi, ht, hcode⟩ := h
    rw [show i = i' from hi, show t = t' from ht, Status.code_injective hcode]
  case error.error p st p' st' =>
    obtain ⟨i, t⟩ := p
    obtain ⟨i', t'⟩ := p'
    obtain ⟨hi, ht, hcode⟩ := h
    rw [show i = i' from hi, show t = t' from ht, Status.code_injective hcode]
  case retry.retry p why p' why' =>
    obtain ⟨i, t⟩ := p
    obtain ⟨i', t'⟩ := p'
    obtain ⟨hi, ht, hcode⟩ := h
    rw [show i = i' from hi, show t = t' from ht, Reason.code_injective hcode]

/-- Settles O60: each encoding is read back by its decoder, and the codes are the places in their lists. -/
theorem encodingsReadBack : Obligations.EncodingsReadBack := by
  refine ⟨fun c bytes more hformed hframe => decodeFrame_append hformed hframe more, rfl, fun code ps =>
    (decodeFrame_eq_none_iff_short code ps).trans (lt_paramBytes_iff code _), fun r e =>
    ⟨unpackRegion_packRegion r e, recordIndex_packRegion r e⟩, fun q => ⟨rfl, rfl, rfl, rfl, rfl, rfl, rfl, rfl⟩, by decide,
    fun c m => decodeMessage_encodeMessage, encodeMessage_decodeMessage, fun r m hm => ?_, fun r q =>
    encodeResponse_injective⟩
  subst hm
  cases r with
  | data p st n beats =>
    exact ⟨rfl, rfl, rfl, statusNames_code st, BitVec.toNat_ofNat _ 4, BitVec.toNat_ofNat _ 4, rfl⟩
  | ack p st => exact ⟨rfl, rfl, rfl, statusNames_code st, rfl, rfl, rfl⟩
  | error p st => exact ⟨rfl, rfl, rfl, statusNames_code st, rfl, rfl, rfl⟩
  | retry p why => exact ⟨rfl, rfl, rfl, reasonNames_code why, rfl, rfl, rfl⟩

end Sys2Proof.Machine
end

section
/-! SUPPORT. No meaning but that of the port itself reads the port, so that a command acts in the same way in every frame that
takes it; and the statement about the bytes of a frame (R161, R162). -/

namespace Sys2Proof.Machine

/-! ## The grant order reads the pointer and the order numbers -/

theorem State.oldestOf_congr {s u : State} (h : ∀ p, u.orderOf p = s.orderOf p) (ps : List Pair) :
    u.oldestOf ps = s.oldestOf ps := by
  induction ps with
  | nil => rfl
  | cons p ps ih =>
    rw [State.oldestOf, State.oldestOf, ih]
    cases s.oldestOf ps with
    | none => rfl
    | some q => simp only [h]

theorem State.firstInTurn_congr {s u : State} (hpointer : u.pointer = s.pointer) (horder : ∀ p, u.orderOf p = s.orderOf p)
    {f g : Pair → Bool} (hfg : ∀ p, f p = g p) : u.firstInTurn f = s.firstInTurn g := by
  have same : f = g := funext hfg
  simp only [State.firstInTurn, hpointer, State.oldestOf_congr horder, same]

/-! ## Operations that do not read the port -/

/-- The state with another port. -/
def State.withPort (s : State) (q : Port) : State := { s with port := q }

/-- An operation that neither reads the port nor moves it. -/
def IgnoresPort (f : State → State) : Prop := ∀ (s : State) (q : Port), f (s.withPort q) = (f s).withPort q

namespace IgnoresPort

theorem id : IgnoresPort fun s => s := fun _ _ => rfl

theorem comp {f g : State → State} (hg : IgnoresPort g) (hf : IgnoresPort f) : IgnoresPort fun s => g (f s) :=
  fun s q => (congrArg g (hf s q)).trans (hg (f s) q)

theorem foldl {α : Type} {f : State → α → State} (h : ∀ a, IgnoresPort fun s => f s a) (l : List α) :
    IgnoresPort fun s => l.foldl f s := by
  induction l with
  | nil => exact id
  | cons a l ih => exact comp ih (h a)

/-- A case distinction on what the port plays no part in. -/
theorem ite {c : State → Prop} [DecidablePred c] (hc : ∀ s q, c (s.withPort q) ↔ c s) {f g : State → State}
    (hf : IgnoresPort f) (hg : IgnoresPort g) : IgnoresPort fun s => if c s then f s else g s := by
  intro s q
  simp only [hc]
  by_cases h : c s
  · simp only [if_pos h, hf s q]
  · simp only [if_neg h, hg s q]

theorem setTag (p : Pair) (r : Option TagRecord) : IgnoresPort fun s => s.setTag p r := fun _ _ => rfl
theorem setEntry (e : EntryIx) (c : Option CaptureEntry) : IgnoresPort fun s => s.setEntry e c := fun _ _ => rfl
theorem setSlot (k : SlotIx) (r : Option Reservation) : IgnoresPort fun s => s.setSlot k r := fun _ _ => rfl
theorem setLockLost (i : Initiator) (b : Bool) : IgnoresPort fun s => s.setLockLost i b := fun _ _ => rfl
theorem respond (a : Response) : IgnoresPort fun s => s.respond a := fun _ _ => rfl
theorem raise (e : EventRecord) : IgnoresPort fun s => s.raise e := fun _ _ => rfl

theorem discard (es : List Numbered) (event : EventRecord) : IgnoresPort (discard es event) := by
  have freed : IgnoresPort (freeEntries es) :=
    foldl (f := fun s (ec : Numbered) => s.setEntry ec.1 none) (fun ec => setEntry ec.1 none) es
  exact ite (c := fun _ => es = []) (fun _ _ => Iff.rfl) id (comp (raise _) freed)

theorem makeChange (r : RegionIx) : IgnoresPort (makeChange r) := fun s q =>
  discard (s.entriesWhere fun c => c.isStrand && decide (c.region = r)) { kind := .strandsDiscarded, region := r }
    { s with regions := s.regions.set r s.staging } q

theorem clearLockRead (p : Pair) : IgnoresPort (clearLockRead p) := by
  intro s q
  have same : (s.withPort q).namedByLockRead p = s.namedByLockRead p := rfl
  unfold Machine.clearLockRead
  rw [same]
  cases s.namedByLockRead p <;> rfl

theorem freeEntryOf (r : TagRecord) : IgnoresPort (freeEntryOf r) := by
  intro s q
  unfold Machine.freeEntryOf
  cases r.entry <;> rfl

theorem releaseRecord (p : Pair) (r : TagRecord) : IgnoresPort (releaseRecord p r) :=
  show IgnoresPort fun s => Machine.clearLockRead p (Machine.freeEntryOf r (s.setTag p none)) from
    comp (clearLockRead p) (comp (freeEntryOf r) (setTag p none))

theorem releaseIfFinished (p : Pair) : IgnoresPort (releaseIfFinished p) := by
  intro s q
  have same : (s.withPort q).tag p = s.tag p := rfl
  unfold Machine.releaseIfFinished
  rw [same]
  cases s.tag p with
  | none => rfl
  | some r => exact ite (c := fun _ => r.finished = true) (fun _ _ => Iff.rfl) (releaseRecord p r) id s q

theorem unlockEffect (i : Initiator) (s : State) (q : Port) :
    unlockEffect i (s.withPort q) = ((unlockEffect i s).1, (unlockEffect i s).2.withPort q) := by
  have same : (s.withPort q).held i = s.held i := rfl
  unfold Machine.unlockEffect
  rw [same]
  cases s.held i with
  | none =>
    have flag : (s.withPort q).lockLost[i] = s.lockLost[i] := rfl
    simp only [flag]
    split <;> rfl
  | some x =>
    obtain ⟨k, v⟩ := x
    cases hv : v.state with
    | reserved n => simp only [hv]; rfl
    | writing t => simp only [hv]

theorem performUnlock (p : Pair) : IgnoresPort (performUnlock p) := by
  intro s q
  have same : (s.withPort q).tag p = s.tag p := rfl
  unfold Machine.performUnlock
  rw [same]
  cases s.tag p with
  | none => rfl
  | some r =>
    simp only [unlockEffect]
    exact releaseIfFinished p (State.respond (State.setTag _ p _) _) q

theorem performReady (i : Initiator) (n : Nat) : IgnoresPort (performReady i n) := by
  induction n with
  | zero => exact id
  | succ n ih =>
    intro s q
    have same : (s.withPort q).readyUnlock i = s.readyUnlock i := rfl
    rw [Machine.performReady, Machine.performReady, same]
    cases s.readyUnlock i with
    | none => rfl
    | some p => exact comp ih (performUnlock p) s q

theorem performUnlocks : IgnoresPort performUnlocks := foldl (fun i => performReady i 16) _

theorem completeDrain : IgnoresPort completeDrain := by
  intro s q
  have same : (s.withPort q).apply = s.apply := rfl
  unfold Machine.completeDrain
  rw [same]
  cases s.apply with
  | idle => rfl
  | draining r n =>
    exact ite (c := fun s => s.useCount r = 0) (fun _ _ => Iff.rfl)
      (comp (raise _) (comp (makeChange r) (f := fun s => { s with apply := .idle }) fun _ _ => rfl)) id s q

/-- The event's beginning may stand in another port as well as its end. -/
theorem latchSet (before s : State) (q q' : Port) :
    latchSet (before.withPort q') (s.withPort q) = (latchSet before s).withPort q := by
  have same : ((s.withPort q).firstInTurn fun p => (s.withPort q).stalled p && !(before.withPort q').stalled p) =
      s.firstInTurn fun p => s.stalled p && !before.stalled p :=
    State.firstInTurn_congr (s := s) (u := s.withPort q) rfl (fun _ => rfl) fun _ => rfl
  unfold Machine.latchSet
  rw [same]
  by_cases h : s.latch = true
  · exact (if_pos h).trans (congrArg (State.withPort · q) (if_pos h).symm)
  · refine (if_neg h).trans (Eq.trans ?_ (congrArg (State.withPort · q) (if_neg h).symm))
    cases s.firstInTurn fun p => s.stalled p && !before.stalled p <;> rfl

theorem latchClear (before s : State) (q q' : Port) :
    latchClear (before.withPort q') (s.withPort q) = (latchClear before s).withPort q :=
  ite (c := fun s => before.freeCount < Config.rearmLevel ∧ Config.rearmLevel ≤ s.freeCount) (fun _ _ => Iff.rfl)
    (f := fun s => { s with latch := false }) (fun _ _ => rfl) id s q

theorem settle (before s : State) (q q' : Port) :
    settle (before.withPort q') (s.withPort q) = (settle before s).withPort q := by
  rw [Machine.settle, performUnlocks, completeDrain, followLatch, latchSet, latchClear]
  rfl

theorem breakReservation (k : SlotIx) (r : Reservation) (cause : Nat) : IgnoresPort (breakReservation k r cause) := by
  intro s q
  unfold Machine.breakReservation
  cases r.lockRead with
  | none => rfl
  | some t =>
    have same : (((s.withPort q).setSlot k none).setLockLost r.initiator true).tag ⟨r.initiator, t⟩ =
      ((s.setSlot k none).setLockLost r.initiator true).tag ⟨r.initiator, t⟩ := rfl
    simp only [same]
    cases ((s.setSlot k none).setLockLost r.initiator true).tag ⟨r.initiator, t⟩ <;> rfl

end IgnoresPort

/-! ## Replies that do not read the port -/

/-- The reply of a command whose state has another port. -/
def Reply.withPort (w : Reply) (q : Port) : Reply := { w with state := w.state.withPort q }

/-- A command that neither reads the port nor moves it. -/
def ReplyIgnoresPort (act : State → Reply) : Prop := ∀ (s : State) (q : Port), act (s.withPort q) = (act s).withPort q

namespace ReplyIgnoresPort

theorem ite {c : State → Prop} [DecidablePred c] (hc : ∀ s q, c (s.withPort q) ↔ c s) {f g : State → Reply}
    (hf : ReplyIgnoresPort f) (hg : ReplyIgnoresPort g) : ReplyIgnoresPort fun s => if c s then f s else g s := by
  intro s q
  simp only [hc]
  by_cases h : c s
  · simp only [if_pos h, hf s q]
  · simp only [if_neg h, hg s q]

theorem dite {c : Prop} [Decidable c] {f : c → State → Reply} {g : ¬c → State → Reply}
    (hf : ∀ h, ReplyIgnoresPort (f h)) (hg : ∀ h, ReplyIgnoresPort (g h)) :
    ReplyIgnoresPort fun s => if h : c then f h s else g h s := by
  intro s q
  by_cases h : c
  · simp only [dif_pos h, hf h s q]
  · simp only [dif_neg h, hg h s q]

theorem unlessLoading {act : State → Reply} (h : ReplyIgnoresPort act) : ReplyIgnoresPort (unlessLoading act) :=
  ite (c := fun s => s.operating = .loading) (fun _ _ => Iff.rfl) (fun _ _ => rfl) h

theorem takeOldest : ReplyIgnoresPort takeOldest := by
  intro s q
  have same : (s.withPort q).events = s.events := rfl
  unfold Machine.takeOldest
  rw [same]
  cases s.events <;> rfl

theorem stageReply (record : Vector Byte 16) : ReplyIgnoresPort (stageReply record) := by
  intro s q
  have same : (s.withPort q).apply = s.apply := rfl
  unfold Machine.stageReply
  rw [same]
  cases h : s.apply <;> simp [Reply.withPort, State.withPort, h]

theorem settled {f : State → State} (h : IgnoresPort f) (payload : List Byte) :
    ReplyIgnoresPort fun s => ⟨.ok, payload, settle s (f s)⟩ := by
  intro s q
  have same : settle (s.withPort q) (f (s.withPort q)) = (settle s (f s)).withPort q := by rw [h, IgnoresPort.settle]
  exact congrArg (Reply.mk .ok payload) same

theorem applyStaged (index : Byte) : ReplyIgnoresPort (applyStaged index) := by
  intro s q
  have same : (s.withPort q).apply = s.apply := rfl
  unfold Machine.applyStaged
  rw [same]
  cases s.apply with
  | draining r n => rfl
  | idle =>
    by_cases h : index.toNat < 16
    · simp only [dif_pos h]
      exact ite (c := fun s => s.staging.valid = false) (fun _ _ => Iff.rfl) (f := fun s => ⟨.invalid, [], s⟩)
        (fun _ _ => rfl) (ite (c := fun s => s.useCount ⟨index.toNat, h⟩ = 0) (fun _ _ => Iff.rfl)
          (settled (.makeChange _) [])
          (g := fun s => ⟨.pending, [], { s with apply := .draining ⟨index.toNat, h⟩ (drainTicks s) }⟩) fun _ _ => rfl) s q
    · simp only [dif_neg h]
      rfl

theorem discardCommand (scope region select : Byte) (address : Word) :
    ReplyIgnoresPort (discardCommand scope region select address) := by
  intro s q
  by_cases hbad : BadScope scope region select address
  · rw [discardCommand_of_bad hbad, discardCommand_of_bad hbad]
    rfl
  · rw [discardCommand_of_good hbad, discardCommand_of_good hbad]
    exact settled (.discard (s.strandsInScope scope region select address) (scopeEvent scope region select address)) _ s q

theorem breakCommand (initiator : Byte) : ReplyIgnoresPort (breakCommand initiator) := by
  refine dite (fun h s q => ?_) (fun _ _ _ => rfl)
  have same : (s.withPort q).held ⟨initiator.toNat, h⟩ = s.held ⟨initiator.toNat, h⟩ := rfl
  rw [same]
  cases s.held ⟨initiator.toNat, h⟩ with
  | none => rfl
  | some x =>
    obtain ⟨k, v⟩ := x
    cases hv : v.state with
    | reserved n =>
      simp only [hv]
      exact settled (.breakReservation k v 1) [] s q
    | writing t =>
      simp only [hv]
      rfl

end ReplyIgnoresPort

/-! ## A command of the port in a frame that can take it, or cannot -/

/-- Every command of the port is taken with what it replies, which does not depend on the port. -/
theorem exec_of_port {c : Instr} {code : Byte} {params : List Byte} (hformed : c.wellFormed = true)
    (hframe : encodeFrame c = some (code :: params)) :
    ∃ act, ReplyIgnoresPort act ∧ ∀ s, exec c s = .next (takeCommand code params act s) := by
  cases c <;> cases hframe
  case getStatus => exact ⟨answer statusRecord, fun _ _ => rfl, fun _ => rfl⟩
  case unknownCommand =>
    have unlisted : ¬Config.commandCodes.contains code = true := by simpa [Instr.wellFormed] using hformed
    exact ⟨fun s => ⟨.unknown, [], s⟩, fun _ _ => rfl, fun s => if_neg unlisted⟩
  case takeEvent => exact ⟨_, .unlessLoading .takeOldest, fun _ => rfl⟩
  case stageRegion record => exact ⟨_, .unlessLoading (.stageReply record), fun _ => rfl⟩
  case applyRegion => exact ⟨_, .unlessLoading (.applyStaged _), fun _ => rfl⟩
  case discardStrands => exact ⟨_, .unlessLoading (.discardCommand _ _ _ _), fun _ => rfl⟩
  case breakLock => exact ⟨_, .unlessLoading (.breakCommand _), fun _ => rfl⟩
  case readRegion => exact ⟨_, .unlessLoading (.dite (fun _ _ _ => rfl) fun _ _ _ => rfl), fun _ => rfl⟩
  case setSelect => exact ⟨_, .unlessLoading (.dite (fun _ _ _ => rfl) fun _ _ _ => rfl), fun _ => rfl⟩
  case readTag => exact ⟨_, .unlessLoading (.dite (fun _ _ _ => rfl) fun _ _ _ => rfl), fun _ => rfl⟩
  case readCapture => exact ⟨_, .unlessLoading (.dite (fun _ _ _ => rfl) fun _ _ _ => rfl), fun _ => rfl⟩
  all_goals exact ⟨_, .unlessLoading fun _ _ => rfl, fun _ => rfl⟩

section
variable {s : State} {code : Byte} {params : List Byte} {act : State → Reply}

theorem takeCommand_of_accepts (h : s.accepts (code :: params) = true) :
    takeCommand code params act s = (act s).state.answered code params (act s).bytes := by
  unfold State.accepts at h
  split at h
  · cases h
  · cases h
  · rename_i f hport
    have hawaits : f.awaits (code :: params) = true := by
      unfold Frame.awaits
      split at h <;> simp_all [Frame.received]
    simp only [takeCommand, hport, hawaits, if_true]
    rfl

theorem takeCommand_of_rejects (h : s.accepts (code :: params) = false) : takeCommand code params act s = s := by
  unfold State.accepts at h
  split at h
  · rename_i hport
    simp only [takeCommand, hport]
  · rename_i hport
    simp only [takeCommand, hport]
  · rename_i f hport
    have hawaits : ¬f.awaits (code :: params) = true := by
      unfold Frame.awaits
      split at h <;> simp_all [Frame.received]
    simp only [takeCommand, hport, if_neg hawaits]

end

section
variable {s : State} {c : Instr} {bytes : List Byte}

theorem exec_of_rejects (hframe : encodeFrame c = some bytes) (h : s.accepts bytes = false) : exec c s = .next s := by
  obtain ⟨code, params, rfl⟩ := encodeFrame_eq_cons hframe
  obtain ⟨-, -, hexec⟩ | ⟨-, act, hexec⟩ | ⟨rfl, rfl⟩ := exec_of_encodeFrame hframe
  · rw [hexec, takeCommand_of_rejects h]
  · rw [hexec, takeCommand_of_rejects h]
  · change execUnknownCommand code s = _
    rw [execUnknownCommand, takeCommand_of_rejects h]
    exact ite_self _

/-- A command is taken in the same way in every frame that takes it. -/
theorem exec_withPort (hformed : c.wellFormed = true) (hframe : encodeFrame c = some bytes) {q : Port}
    (h : s.accepts bytes = true) (h' : (s.withPort q).accepts bytes = true) : exec c (s.withPort q) = exec c s := by
  obtain ⟨code, params, rfl⟩ := encodeFrame_eq_cons hframe
  obtain ⟨act, hact, hexec⟩ := exec_of_port hformed hframe
  rw [hexec, hexec, takeCommand_of_accepts h, takeCommand_of_accepts h', hact]
  rfl

/-! ## The bytes of a command (R161) -/

/-- The state with a frame in its parameter phase that has received these bytes. -/
def State.receiving (s : State) (few : List Byte) : State :=
  s.withPort (.frame { phase := .parameters, code := few.head?, params := few.tail, response := [], sent := 0 })

theorem State.port_of_listens (hlistens : s.listens = true) : ∃ f, s.port = .frame f ∧ f.phase = .command := by
  unfold State.listens at hlistens
  split at hlistens
  · cases hlistens
  · cases hlistens
  · exact ⟨_, ‹_›, of_decide_eq_true hlistens⟩

theorem State.accepts_of_listens (hlistens : s.listens = true) (bytes : List Byte) : s.accepts bytes = true := by
  obtain ⟨f, hport, hphase⟩ := State.port_of_listens hlistens
  simp only [State.accepts, hport, hphase]

theorem State.dataOut_of_listens (hlistens : s.listens = true) : s.dataOut = some 0 := by
  obtain ⟨f, hport, hphase⟩ := State.port_of_listens hlistens
  simp only [State.dataOut, hport, hphase]

theorem State.accepts_receiving {few rest : List Byte} (hfew : few ≠ []) : (s.receiving few).accepts (few ++ rest) = true := by
  cases few with
  | nil => exact absurd rfl hfew
  | cons b few => exact decide_eq_true (List.prefix_append (b :: few) rest)

theorem clockByte_of_listens (hlistens : s.listens = true) (b : Byte) : clockByte b s = receiveBytes [b] s := by
  obtain ⟨f, hport, hphase⟩ := State.port_of_listens hlistens
  simp only [clockByte, hport, hphase]

theorem clockByte_of_receiving {few : List Byte} (hfew : few ≠ []) (b : Byte) :
    clockByte b (s.receiving few) = receiveBytes (few ++ [b]) (s.receiving few) := by
  cases few with
  | nil => exact absurd rfl hfew
  | cons d few => rfl

theorem clockAll_cons {b : Byte} {more : List Byte} {t : State} (h : clockByte b s = .next t) :
    clockAll (b :: more) s = clockAll more t := by
  simp only [clockAll, List.foldl_cons, h]

theorem clockAll_append (few more : List Byte) : clockAll (few ++ more) s = clockAll more (clockAll few s) :=
  List.foldl_append

/-- Bytes that do not end a command leave the frame in its parameter phase. -/
theorem receiveBytes_of_short {few : List Byte} (h : decodeFrame few = none) : receiveBytes few s = .next (s.receiving few) := by
  simp only [receiveBytes, h]
  rfl

variable (hformed : c.wellFormed = true) (hframe : encodeFrame c = some bytes) (hlistens : s.listens = true)
include hformed hframe

/-- The first bytes of a command do not end it. -/
theorem decodeFrame_of_part {few rest : List Byte} {b : Byte} (hparts : bytes = few ++ b :: rest) : decodeFrame few = none := by
  obtain ⟨code, params, rfl⟩ := encodeFrame_eq_cons hframe
  obtain ⟨hlength, -⟩ := commandOf_encodeFrame hformed hframe
  cases few with
  | nil => rfl
  | cons d few =>
    simp only [List.cons_append, List.cons.injEq] at hparts
    obtain ⟨rfl, rfl⟩ := hparts
    refine decodeFrame_of_short ?_
    rw [← hlength, List.length_append, List.length_cons]
    omega

include hlistens

/-- Before its last byte a command has only moved the frame on. -/
theorem clockAll_of_part {few rest : List Byte} {b : Byte} (hparts : bytes = few ++ b :: rest) (hfew : few ≠ []) :
    clockAll few s = s.receiving few := by
  induction few using List.reverseRecOn generalizing b rest with
  | nil => exact absurd rfl hfew
  | append_singleton few d ih =>
    rw [List.append_assoc, List.singleton_append] at hparts
    have short : decodeFrame (few ++ [d]) = none :=
      decodeFrame_of_part hformed hframe (rest := rest) (b := b) (by rw [hparts, List.append_assoc, List.singleton_append])
    rw [clockAll_append]
    by_cases hnil : few = []
    · subst hnil
      exact clockAll_cons ((clockByte_of_listens hlistens d).trans (receiveBytes_of_short short))
    · rw [ih hparts hnil]
      exact clockAll_cons ((clockByte_of_receiving hnil d).trans (receiveBytes_of_short short))

/-- The last byte of a command takes it. -/
theorem exec_eq_clockAll : exec c s = .next (clockAll bytes s) := by
  obtain ⟨few, b, hparts⟩ : ∃ few b, bytes = few ++ [b] := by
    obtain ⟨code, params, rfl⟩ := encodeFrame_eq_cons hframe
    exact ⟨_, _, (List.dropLast_append_getLast (List.cons_ne_nil code params)).symm⟩
  have decoded : decodeFrame (few ++ [b]) = some c := by
    have whole := decodeFrame_append hformed hframe []
    rwa [List.append_nil, hparts] at whole
  have taken (u : State) : receiveBytes (few ++ [b]) u = exec c u := by simp only [receiveBytes, decoded]
  obtain ⟨t, ht⟩ : ∃ t, exec c s = .next t := by
    obtain ⟨code, params, rfl⟩ := encodeFrame_eq_cons hframe
    obtain ⟨act, -, hexec⟩ := exec_of_port hformed hframe
    exact ⟨_, hexec s⟩
  have clocked : clockByte b (clockAll few s) = .next t := by
    by_cases hnil : few = []
    · subst hnil
      exact ((clockByte_of_listens hlistens b).trans (taken s)).trans ht
    · have accepts : (s.receiving few).accepts bytes = true := hparts ▸ State.accepts_receiving hnil
      rw [clockAll_of_part hformed hframe hlistens hparts hnil, clockByte_of_receiving hnil, taken, ← ht]
      exact exec_withPort hformed hframe (State.accepts_of_listens hlistens bytes) accepts
  rw [ht, hparts, clockAll_append, clockAll_cons clocked]
  rfl

end

/-! ## The response of a frame (R161) -/

theorem clockAll_of_response (s : State) (f : Frame) (more : List Byte) (n : Nat) :
    clockAll more (s.withPort (.frame { f with phase := .response, sent := n })) =
      s.withPort (.frame { f with phase := .response, sent := n + more.length }) := by
  induction more generalizing n with
  | nil => rfl
  | cons b more ih =>
    have next : clockByte b (s.withPort (.frame { f with phase := .response, sent := n })) =
      .next (s.withPort (.frame { f with phase := .response, sent := n + 1 })) := rfl
    rw [clockAll_cons next, ih (n + 1), List.length_cons, Nat.add_right_comm, Nat.add_assoc]

/-- After its turnaround byte a frame clocks out its response. -/
theorem clockAll_of_turnaround {s : State} {f : Frame} (hport : s.port = .frame f) (hphase : f.phase = .turnaround)
    (hsent : f.sent = 0) (b : Byte) (more : List Byte) :
    clockAll (b :: more) s = s.withPort (.frame { f with phase := .response, sent := more.length }) := by
  have next : clockByte b s = .next (s.withPort (.frame { f with phase := .response, sent := 0 })) := by
    simp only [clockByte, hport, hphase, ← hsent]
    rfl
  rw [clockAll_cons next, clockAll_of_response, Nat.zero_add]

/-- Settles O51: a frame that listens, or has received bytes of the command alone, takes it with what it replies, which the port
plays no part in; and the bytes before the last only move the frame. -/
theorem framesCarryOneCommand : Obligations.FramesCarryOneCommand := by
  intro s frame
  refine ⟨fun hport => ?_, fun hport => ?_, rfl, fun hport => ?_, fun c bytes hframe => ⟨exec_of_rejects hframe,
    fun hformed => ⟨fun haccepts => ?_, fun hlistens => ⟨exec_eq_clockAll hformed hframe hlistens, fun few b rest hparts =>
      ⟨?_, clockAll_of_part hformed hframe hlistens hparts⟩⟩⟩⟩, fun f hport hphase hsent => ⟨?_, fun b more => ⟨?_, ?_⟩⟩⟩
  · change execFrameStart s = _
    simp only [execFrameStart, hport]
    rfl
  · change execFrameStart s = _
    unfold execFrameStart
    split
    · exact absurd ‹_› hport
    · rfl
    · rfl
  · obtain hport | hport := hport
    · exact ⟨by simp only [State.dataOut, hport], fun b => by simp only [clockByte, hport]⟩
    · exact ⟨by simp only [State.dataOut, hport], fun b => by simp only [clockByte, hport]⟩
  · exact (exec_withPort hformed hframe haccepts (State.accepts_of_listens rfl bytes)).symm
  · by_cases hnil : few = []
    · subst hnil
      exact State.dataOut_of_listens hlistens
    · rw [clockAll_of_part hformed hframe hlistens hparts hnil]
      rfl
  · simp only [State.dataOut, hport, hphase]
  · exact clockAll_of_turnaround hport hphase hsent b more
  · rw [clockAll_of_turnaround hport hphase hsent b more]
    rfl

end Sys2Proof.Machine
end

section
/-! SUPPORT. The grant order, the readiness of an UNLOCK and what its performing leaves, the completion of a drain, and the
latch: the statements about ready UNLOCKs and about the rest of an event. -/

namespace Sys2Proof.Machine

/-! ## The grant order (R147) -/

section
variable (s : State)

theorem mem_pairsOf {i : Initiator} {p : Pair} : p ∈ pairsOf i ↔ p.initiator = i := by
  obtain ⟨j, t⟩ := p
  simp [pairsOf, eq_comm]

theorem State.oldestOf_eq_none_iff {ps : List Pair} : s.oldestOf ps = none ↔ ps = [] := by
  cases ps with
  | nil => simp [State.oldestOf]
  | cons p ps =>
    rw [State.oldestOf]
    cases s.oldestOf ps with
    | none => simp
    | some q => simp only [reduceCtorEq, iff_false]; split <;> simp

/-- The oldest of a list is in it, and none there has a lower order number. -/
theorem State.oldestOf_spec {ps : List Pair} {p : Pair} (h : s.oldestOf ps = some p) :
    p ∈ ps ∧ ∀ q ∈ ps, s.orderOf p ≤ s.orderOf q := by
  induction ps generalizing p with
  | nil => simp [State.oldestOf] at h
  | cons x xs ih =>
    rw [State.oldestOf] at h
    cases hxs : s.oldestOf xs with
    | none =>
      rw [hxs] at h
      obtain rfl := Option.some_inj.1 h
      obtain rfl := (State.oldestOf_eq_none_iff s).1 hxs
      simp
    | some y =>
      obtain ⟨hy, hlow⟩ := ih hxs
      simp only [hxs] at h
      split at h
      · obtain rfl := Option.some_inj.1 h
        refine ⟨List.mem_cons_self, fun q hq => ?_⟩
        obtain rfl | hq := List.mem_cons.1 hq
        · exact le_rfl
        · exact (‹s.orderOf _ ≤ s.orderOf y›).trans (hlow q hq)
      · obtain rfl := Option.some_inj.1 h
        refine ⟨List.mem_cons_of_mem _ hy, fun q hq => ?_⟩
        obtain rfl | hq := List.mem_cons.1 hq
        · exact le_of_not_ge ‹_›
        · exact hlow q hq

/-- The first in turn that satisfies `f`: no initiator before its own has one, and of its own it is the oldest. -/
theorem State.firstInTurn_spec {f : Pair → Bool} {p : Pair} (h : s.firstInTurn f = some p) :
    f p = true ∧ ∀ q : Pair, f q = true → (p.initiator - s.pointer).val ≤ (q.initiator - s.pointer).val ∧
      (q.initiator = p.initiator → s.orderOf p ≤ s.orderOf q) := by
  rw [State.firstInTurn, turnFrom, List.findSome?_map, ← Fin.findSome?_eq_findSome?_finRange, Fin.findSome?_eq_some_iff] at h
  obtain ⟨k, hk, hbefore⟩ := h
  obtain ⟨hmem, holdest⟩ := s.oldestOf_spec hk
  obtain ⟨hp, hfp⟩ := List.mem_filter.1 hmem
  rw [mem_pairsOf] at hp
  have place : p.initiator - s.pointer = k := by rw [hp]; exact add_sub_cancel_left _ _
  refine ⟨hfp, fun q hq => ⟨?_, fun hsame => holdest q (List.mem_filter.2 ⟨mem_pairsOf.2 (hsame.trans hp), hq⟩)⟩⟩
  rw [place]
  by_contra hlt
  have empty := (State.oldestOf_eq_none_iff s).1 (hbefore (q.initiator - s.pointer) (not_le.1 hlt))
  have mem : q ∈ (pairsOf (s.pointer + (q.initiator - s.pointer))).filter f :=
    List.mem_filter.2 ⟨mem_pairsOf.2 (add_sub_cancel _ _).symm, hq⟩
  rw [empty] at mem
  cases mem

theorem State.firstInTurn_isSome {f : Pair → Bool} {p : Pair} (hp : f p = true) : ∃ q, s.firstInTurn f = some q := by
  rw [← Option.isSome_iff_exists, Option.isSome_iff_ne_none, Ne, State.firstInTurn, turnFrom, List.findSome?_map,
    ← Fin.findSome?_eq_findSome?_finRange, Fin.findSome?_eq_none_iff]
  intro hnone
  have empty := (State.oldestOf_eq_none_iff s).1 (hnone (p.initiator - s.pointer))
  have mem : p ∈ (pairsOf (s.pointer + (p.initiator - s.pointer))).filter f :=
    List.mem_filter.2 ⟨mem_pairsOf.2 (add_sub_cancel _ _).symm, hp⟩
  rw [empty] at mem
  cases mem

theorem State.orderOf_eq {p : Pair} {r : TagRecord} (h : s.tag p = some r) : s.orderOf p = r.order := by
  rw [State.orderOf, h]

end

/-! ## The readiness of an UNLOCK (R64) -/

section
variable {s : State} {i : Initiator} {p : Pair} {r : TagRecord}

theorem TagRecord.ordered_iff : r.ordered = true ↔ ¬(r.kind = .read ∧ r.place.map (·.cls) = some .pass) := by
  unfold TagRecord.ordered
  cases r.kind <;> simp

theorem State.anyRecord_iff {f : TagRecord → Bool} :
    s.anyRecord i f = true ↔ ∃ (t : Tag) (w : TagRecord), s.tag ⟨i, t⟩ = some w ∧ f w = true := by
  simp [State.anyRecord, pairsOf, Option.any_eq_true]

theorem State.olderWaiting_iff : s.olderWaiting p r = true ↔ ∃ (t : Tag) (w : TagRecord), s.tag ⟨p.initiator, t⟩ = some w ∧
    w.order < r.order ∧ ¬(w.kind = .read ∧ w.place.map (·.cls) = some .pass) ∧ w.position = .waiting := by
  rw [State.olderWaiting, State.anyRecord_iff]
  simp only [Bool.and_eq_true, decide_eq_true_eq, TagRecord.ordered_iff, and_assoc]

theorem State.olderWaiting_eq_false_iff : s.olderWaiting p r = false ↔ ∀ (t : Tag) (w : TagRecord),
    s.tag ⟨p.initiator, t⟩ = some w → w.order < r.order → w.position = .waiting →
      w.kind = .read ∧ w.place.map (·.cls) = some .pass := by
  rw [← Bool.not_eq_true, State.olderWaiting_iff]
  push Not
  exact ⟨fun h t w hw hlt hpos => by_contra fun hn => h t w hw hlt (fun hk hc => hn ⟨hk, hc⟩) hpos,
    fun h t w hw hlt hn hpos => (h t w hw hlt hpos).elim hn⟩

/-- The pair's record is a COMMITTED, WAITING UNLOCK with no older ordered record of its initiator WAITING. -/
def State.Ready (s : State) (p : Pair) : Prop :=
  ∃ r : TagRecord, s.tag p = some r ∧ r.kind = .unlock ∧ r.verdict = .committed ∧ r.position = .waiting ∧
    s.olderWaiting p r = false

theorem ready_iff : s.Ready p ↔ ((s.tag p).any fun r =>
    decide (r.kind = .unlock) && decide (r.verdict = .committed) && decide (r.position = .waiting) &&
      !s.olderWaiting p r) = true := by
  simp only [State.Ready, Option.any_eq_true, Bool.and_eq_true, decide_eq_true_eq, Bool.not_eq_true', and_assoc]

theorem State.readyUnlock_eq_none_iff : s.readyUnlock i = none ↔ ∀ p : Pair, p.initiator = i → ¬s.Ready p := by
  simp only [State.readyUnlock, List.find?_eq_none, mem_pairsOf, ready_iff]

theorem State.ready_of_readyUnlock (h : s.readyUnlock i = some p) : p.initiator = i ∧ s.Ready p := by
  have found := List.find?_some h
  exact ⟨mem_pairsOf.1 (List.mem_of_find?_eq_some h), ready_iff.2 found⟩

/-- A ready UNLOCK is the one found, if its initiator has no other. -/
theorem State.readyUnlock_eq_some (hp : p.initiator = i) (hready : s.Ready p)
    (honly : ∀ q : Pair, q.initiator = i → s.Ready q → q = p) : s.readyUnlock i = some p := by
  cases h : s.readyUnlock i with
  | none => exact absurd hready (State.readyUnlock_eq_none_iff.1 h p hp)
  | some q =>
    obtain ⟨hq, hready'⟩ := State.ready_of_readyUnlock h
    rw [honly q hq hready']

/-- The readiness of an initiator's UNLOCKs is read off its own records. -/
theorem State.readyUnlock_congr {u : State} (h : ∀ t : Tag, u.tag ⟨i, t⟩ = s.tag ⟨i, t⟩) :
    u.readyUnlock i = s.readyUnlock i := by
  simp only [State.readyUnlock, pairsOf, List.find?_map, Function.comp_def, State.olderWaiting, State.anyRecord, List.any_map, h]

end

/-! ## The performing of an UNLOCK (R141) -/

section
variable {s : State} {i : Initiator} {p : Pair} {r : TagRecord}

/-- A COMMITTED UNLOCK is released as it is performed. -/
theorem performUnlock_of_committed (hlive : s.tag p = some r) (hverdict : r.verdict = .committed) : performUnlock p s =
    releaseRecord p r ((unlockEffect p.initiator s).2.respond (.ack p (unlockEffect p.initiator s).1)) := by
  simp only [performUnlock, hlive]
  rw [releaseIfFinished_answered, if_pos hverdict]

theorem unlockEffect_tag (q : Pair) : (unlockEffect i s).2.tag q = s.tag q := by
  obtain ⟨sl, ll, h⟩ := unlockEffect_only i s
  rw [h]
  rfl

theorem tag_releaseRecord (q : Pair) : (releaseRecord p r s).tag q = if q = p then none else s.tag q := by
  obtain ⟨sl, h⟩ := clearLockRead_only p (freeEntryOf r (s.setTag p none))
  obtain ⟨es, h'⟩ := freeEntryOf_only r (s.setTag p none)
  rw [releaseRecord, h, h']
  exact s.tag_setTag p q none

/-- The performing of a ready UNLOCK frees its pair and leaves the other records. -/
theorem tag_performUnlock (hready : s.Ready p) (q : Pair) :
    (performUnlock p s).tag q = if q = p then none else s.tag q := by
  obtain ⟨r, hlive, -, hverdict, -⟩ := hready
  rw [performUnlock_of_committed hlive hverdict, tag_releaseRecord, State.tag_respond, unlockEffect_tag]

theorem unlockEffect_of_reserved (hlaw : LockLaw s) {k : SlotIx} {v : Reservation} (hslot : s.slots[k] = some v)
    (hv : v.initiator = i) {n : Nat} (hstate : v.state = .reserved n) : unlockEffect i s = (.ok, s.setSlot k none) := by
  have hheld : s.held i = some (k, v) := State.slotWhere_eq_some hlaw hslot (by simp [hv]) (by simp [hv])
  simp only [unlockEffect, hheld, hstate]

theorem unlockEffect_of_writing (hlaw : LockLaw s) {k : SlotIx} {v : Reservation} (hslot : s.slots[k] = some v)
    (hv : v.initiator = i) {t : Tag} (hstate : v.state = .writing t) : unlockEffect i s = (.ok, s) := by
  have hheld : s.held i = some (k, v) := State.slotWhere_eq_some hlaw hslot (by simp [hv]) (by simp [hv])
  simp only [unlockEffect, hheld, hstate]

theorem unlockEffect_of_none_held (hnone : ∀ k : SlotIx, ∀ v ∈ s.slots[k], v.initiator ≠ i) :
    unlockEffect i s = (if s.lockLost[i] = true then .lockLost else .ok, s.setLockLost i false) := by
  have hheld : s.held i = none := State.slotWhere_eq_none_iff.2 fun k v hv => by simpa using hnone k v hv
  simp only [unlockEffect, hheld]
  by_cases hflag : s.lockLost[i] = true
  · rw [if_pos hflag, if_pos hflag]
  · have clear : s.setLockLost i false = s := by
      have same : s.lockLost.set i false = s.lockLost := by
        ext j hj
        rw [Vector.getElem_set]
        split
        · rename_i hij
          subst hij
          exact (Bool.eq_false_iff.2 hflag).symm
        · rfl
      rw [State.setLockLost, same]
    rw [if_neg hflag, if_neg hflag, clear]

/-- The UNLOCK's record has no capture entry, and no reservation names it (R67, R128). -/
theorem performUnlock_of_lawful (hlaw : Lawful s) (hready : s.Ready p) : performUnlock p s =
    (((unlockEffect p.initiator s).2).setTag p none).respond (.ack p (unlockEffect p.initiator s).1) := by
  obtain ⟨-, -, hnames, -, hbound, -⟩ := hlaw
  obtain ⟨r, hlive, hkind, hverdict, -⟩ := hready
  have hentry : r.entry = none := by
    rw [Option.eq_none_iff_forall_not_mem]
    intro e he
    have hreads := (hbound p.initiator p.tag r hlive e he).1
    simp [TagRecord.reads, hkind] at hreads
  have hunnamed : ∀ k : SlotIx, ∀ v ∈ ((unlockEffect p.initiator s).2.respond
      (.ack p (unlockEffect p.initiator s).1)).slots[k], ¬v.NamesLockRead p := by
    have before := NamesLaw.unnamed hnames hlive (by simp [hkind])
    have freed (k : SlotIx) := State.unnamed_setSlot_none (k := k) before
    rw [State.respond_slots]
    unfold unlockEffect
    split
    · split
      · exact freed _
      · exact before
    · split
      · exact before
      · exact before
  rw [performUnlock_of_committed hlive hverdict, releaseRecord_of_bare hentry hunnamed]
  rfl

section
variable (hlaw : Lawful s) (hready : s.Ready p) (hp : p.initiator = i)
include hlaw hready hp

theorem performUnlock_of_reserved {k : SlotIx} {v : Reservation} (hslot : s.slots[k] = some v)
    (hv : v.initiator = i) {n : Nat} (hstate : v.state = .reserved n) :
    performUnlock p s = ((s.setTag p none).setSlot k none).respond (.ack p .ok) := by
  rw [performUnlock_of_lawful hlaw hready, hp, unlockEffect_of_reserved hlaw.1 hslot hv hstate]
  rfl

theorem performUnlock_of_writing {k : SlotIx} {v : Reservation} (hslot : s.slots[k] = some v)
    (hv : v.initiator = i) {t : Tag} (hstate : v.state = .writing t) :
    performUnlock p s = (s.setTag p none).respond (.ack p .ok) := by
  rw [performUnlock_of_lawful hlaw hready, hp, unlockEffect_of_writing hlaw.1 hslot hv hstate]

theorem performUnlock_of_none_held (hnone : ∀ k : SlotIx, ∀ v ∈ s.slots[k], v.initiator ≠ i) :
    performUnlock p s = ((s.setTag p none).setLockLost i false).respond
      (.ack p (if s.lockLost[i] = true then .lockLost else .ok)) := by
  rw [performUnlock_of_lawful hlaw hready, hp, unlockEffect_of_none_held hnone]
  rfl

end

/-- Settles O42: the one that is found is ready, and its performing is that of a lawful state. -/
theorem unlocksArePerformed : Obligations.UnlocksArePerformed := by
  refine ⟨?_, ?_⟩
  · intro i s ready
    have ready_eq (p : Pair) : ready p ↔ p.initiator = i ∧ s.Ready p := by
      refine and_congr_right fun hp => exists_congr fun r => and_congr_right fun _ => and_congr_right fun _ =>
        and_congr_right fun _ => and_congr_right fun _ => ?_
      rw [State.olderWaiting_eq_false_iff, hp]
    refine ⟨fun p hp => (ready_eq p).2 (State.ready_of_readyUnlock hp), fun hnone p hp => ?_⟩
    obtain ⟨hi, hready⟩ := (ready_eq p).1 hp
    exact State.readyUnlock_eq_none_iff.1 hnone p hi hready
  · intro i p s hlaw hfound gone
    obtain ⟨hp, hready⟩ := State.ready_of_readyUnlock hfound
    have hexec : exec (.unlockPerform i) s = .next (settle s (performUnlock p s)) := by
      change execUnlockPerform i s = _
      simp only [execUnlockPerform, hfound]
    rw [hexec]
    refine ⟨fun k v hslot hv => ⟨fun n hstate => ?_, fun t hstate => ?_⟩, fun hnone => ?_⟩
    · rw [performUnlock_of_reserved hlaw hready hp hslot hv hstate]
    · rw [performUnlock_of_writing hlaw hready hp hslot hv hstate]
    · rw [performUnlock_of_none_held hlaw hready hp hnone]

end

/-! ## The performing of every ready UNLOCK -/

section
variable {s : State} {i : Initiator} {p : Pair}

theorem performReady_of_none {n : Nat} (h : s.readyUnlock i = none) : performReady i n s = s := by
  cases n with
  | zero => rfl
  | succ n => rw [performReady, h]

theorem performReady_of_some {n : Nat} (h : s.readyUnlock i = some p) :
    performReady i (n + 1) s = performReady i n (performUnlock p s) := by
  rw [performReady, h]

/-- The performing of an UNLOCK leaves one live record of its initiator fewer. -/
theorem liveOf_performUnlock (hp : p.initiator = i) (hready : s.Ready p) : (performUnlock p s).liveOf i + 1 = s.liveOf i := by
  have live : (s.tag p).isSome = true := by
    obtain ⟨r, hr, -⟩ := hready
    rw [hr]
    rfl
  have after (t : Tag) : (((performUnlock p s).tag ⟨i, t⟩).isSome = true) ↔ t ≠ p.tag ∧ (s.tag ⟨i, t⟩).isSome = true := by
    rw [tag_performUnlock hready]
    by_cases ht : t = p.tag
    · subst ht
      have same : (⟨i, p.tag⟩ : Pair) = p := by rw [← hp]
      simp [same]
    · have other : (⟨i, t⟩ : Pair) ≠ p := fun h => ht (h ▸ rfl)
      simp [other, ht]
  have count (u : State) : u.liveOf i = (Finset.univ.filter fun t : Tag => (u.tag ⟨i, t⟩).isSome = true).card := by
    rw [State.liveOf_eq, List.countP_eq_length_filter, ← List.toFinset_card_of_nodup ((List.nodup_finRange 16).filter _)]
    congr 1
    ext t
    simp
  have erased : (Finset.univ.filter fun t : Tag => ((performUnlock p s).tag ⟨i, t⟩).isSome = true) =
      (Finset.univ.filter fun t : Tag => (s.tag ⟨i, t⟩).isSome = true).erase p.tag := by
    ext t
    simp only [Finset.mem_filter, Finset.mem_univ, true_and, Finset.mem_erase, after]
  have member : p.tag ∈ Finset.univ.filter fun t : Tag => (s.tag ⟨i, t⟩).isSome = true := by
    have same : (⟨i, p.tag⟩ : Pair) = p := by rw [← hp]
    simp [same, live]
  rw [count, count, erased, Finset.card_erase_add_one member]

/-- As many performings as the initiator has live records leave no UNLOCK of it ready. -/
theorem readyUnlock_performReady {n : Nat} (hn : s.liveOf i ≤ n) : (performReady i n s).readyUnlock i = none := by
  induction n generalizing s with
  | zero =>
    change s.readyUnlock i = none
    refine State.readyUnlock_eq_none_iff.2 fun p hp hready => ?_
    have fewer := liveOf_performUnlock hp hready
    omega
  | succ n ih =>
    cases h : s.readyUnlock i with
    | none => rwa [performReady_of_none h]
    | some p =>
      obtain ⟨hp, hready⟩ := State.ready_of_readyUnlock h
      have fewer := liveOf_performUnlock hp hready
      rw [performReady_of_some h]
      exact ih (by omega)

/-- Once none is ready more performings do nothing. -/
theorem performReady_succ {n : Nat} (hn : s.liveOf i ≤ n) : performReady i (n + 1) s = performReady i n s := by
  induction n generalizing s with
  | zero =>
    have none_ready : s.readyUnlock i = none := readyUnlock_performReady (n := 0) hn
    exact performReady_of_none none_ready
  | succ n ih =>
    cases h : s.readyUnlock i with
    | none => rw [performReady_of_none h, performReady_of_none h]
    | some p =>
      obtain ⟨hp, hready⟩ := State.ready_of_readyUnlock h
      have fewer := liveOf_performUnlock hp hready
      rw [performReady_of_some h, performReady_of_some h]
      exact ih (by omega)

theorem liveOf_le (s : State) (i : Initiator) : s.liveOf i ≤ 16 := s.liveOf_eq i ▸ countP_finRange_le _

/-- The performings of an initiator leave the records of the others. -/
theorem tag_performReady_of_ne {n : Nat} {q : Pair} (hq : q.initiator ≠ i) : (performReady i n s).tag q = s.tag q := by
  induction n generalizing s with
  | zero => rfl
  | succ n ih =>
    cases h : s.readyUnlock i with
    | none => rw [performReady_of_none h]
    | some p =>
      obtain ⟨hp, hready⟩ := State.ready_of_readyUnlock h
      have other : q ≠ p := fun h => hq (h ▸ hp)
      rw [performReady_of_some h, ih, tag_performUnlock hready, if_neg other]

theorem readyUnlock_performReady_of_ne {n : Nat} {j : Initiator} (hj : j ≠ i) :
    (performReady i n s).readyUnlock j = s.readyUnlock j :=
  State.readyUnlock_congr fun _ => tag_performReady_of_ne hj

/-- Performing initiator by initiator leaves none ready of those that had their turn. -/
theorem readyUnlock_foldl_performReady (is : List Initiator) (j : Initiator) (h : j ∈ is ∨ s.readyUnlock j = none) :
    (is.foldl (fun s i => performReady i 16 s) s).readyUnlock j = none := by
  induction is generalizing s with
  | nil => exact h.resolve_left List.not_mem_nil
  | cons i is ih =>
    rw [List.foldl_cons]
    refine ih ?_
    by_cases hj : j = i
    · subst hj
      exact .inr (readyUnlock_performReady (liveOf_le s _))
    · rw [readyUnlock_performReady_of_ne hj]
      exact h.imp_left fun hmem => (List.mem_cons.1 hmem).resolve_left hj

/-- After the performings no UNLOCK is ready. -/
theorem readyUnlock_performUnlocks (s : State) (j : Initiator) : (performUnlocks s).readyUnlock j = none :=
  readyUnlock_foldl_performReady _ j (.inl (List.mem_finRange j))

/-- The first performing of the lowest initiator may be taken out in front. -/
theorem performUnlocks_of_lowest (hfound : s.readyUnlock i = some p)
    (hlowest : ∀ j : Initiator, j < i → s.readyUnlock j = none) :
    performUnlocks s = performUnlocks (performUnlock p s) := by
  obtain ⟨hp, hready⟩ := State.ready_of_readyUnlock hfound
  obtain ⟨before, after, hsplit⟩ := List.append_of_mem (List.mem_finRange i)
  have sorted : (before ++ i :: after).Pairwise (· < ·) := hsplit ▸ List.pairwise_lt_finRange 8
  have below (j : Initiator) (hj : j ∈ before) : j < i :=
    (List.pairwise_append.1 sorted).2.2 j hj i List.mem_cons_self
  have skip (u : State) (hu : ∀ j : Initiator, j < i → u.readyUnlock j = none) :
      before.foldl (fun s i => performReady i 16 s) u = u := by
    clear hsplit sorted
    induction before with
    | nil => rfl
    | cons j js ih =>
      rw [List.foldl_cons, performReady_of_none (hu j (below j List.mem_cons_self))]
      exact ih fun l hl => below l (List.mem_cons_of_mem _ hl)
  have hlowest' (j : Initiator) (hj : j < i) : (performUnlock p s).readyUnlock j = none := by
    refine (State.readyUnlock_congr fun t => ?_).trans (hlowest j hj)
    have other : (⟨j, t⟩ : Pair) ≠ p := fun h => hj.ne ((congrArg Pair.initiator h).trans hp)
    rw [tag_performUnlock hready, if_neg other]
  have fewer := liveOf_performUnlock hp hready
  have few := liveOf_le s i
  have last : performReady i 16 (performUnlock p s) = performReady i 15 (performUnlock p s) := performReady_succ (by omega)
  rw [performUnlocks, performUnlocks, hsplit, List.foldl_append, List.foldl_append, skip s hlowest, skip _ hlowest',
    List.foldl_cons, List.foldl_cons, performReady_of_some hfound, last]

end

/-! ## The completion of a drain (R12, R14) -/

section
variable {s : State} {r : RegionIx} {n : Nat}

/-- The state with the change made, less its event. -/
def State.changed (s : State) (r : RegionIx) : State :=
  { s with regions := (makeChange r s).regions, entries := (makeChange r s).entries }

/-- The strands made through a region index. -/
def State.strandsOf (s : State) (r : RegionIx) : List Numbered :=
  s.entriesWhere fun c => c.isStrand && decide (c.region = r)

/-- A change raises STRANDS_DISCARDED with the number of strands and of their beats, if there was one (R105). -/
theorem makeChange_eq : makeChange r s = if s.strandsOf r = [] then s.changed r
    else (s.changed r).raise
      { kind := .strandsDiscarded, region := r, countA := BitVec.ofNat 16 (s.strandsOf r).length
        countB := BitVec.ofNat 16 (((s.strandsOf r).map fun x => x.2.beats.length).sum) } := by
  set gone := s.strandsOf r with hgone
  have hregions : (makeChange r s).regions = s.regions.set r s.staging := by
    obtain ⟨es, q, o, h⟩ := discard_only gone { kind := .strandsDiscarded, region := r }
      { s with regions := s.regions.set r s.staging }
    change (discard gone { kind := .strandsDiscarded, region := r } { s with regions := s.regions.set r s.staging }).regions = _
    rw [h]
  split
  · rename_i hnone
    have unraised : makeChange r s = { s with regions := s.regions.set r s.staging } := if_pos hnone
    rw [State.changed, unraised]
  · rename_i hsome
    have raised : makeChange r s = (freeEntries gone { s with regions := s.regions.set r s.staging }).raise
      { kind := .strandsDiscarded, region := r, countA := count16 gone.length, countB := count16 (beatsHeld gone) } :=
      if_neg hsome
    obtain ⟨es, hfreed⟩ := freeEntries_only gone { s with regions := s.regions.set r s.staging }
    rw [State.changed, raised, hfreed]
    rfl

end

/-! ## The latch (R82, R83) -/

section
variable {s u : State}

theorem latchSet_of_no_new_stall (h : u.latch = true ∨ ∀ p : Pair, u.stalled p = true → s.stalled p = true) :
    latchSet s u = u := by
  unfold latchSet
  obtain hlatch | hstall := h
  · exact if_pos hlatch
  · have notNew (p : Pair) : (u.stalled p && !s.stalled p) = false := by
      cases hp : u.stalled p with
      | false => rfl
      | true => simp [hstall p hp]
    rw [u.firstInTurn_eq_none notNew]
    exact ite_self u

theorem latchClear_eq (s u : State) : latchClear s u =
    { u with latch := if s.freeCount < 4 ∧ 4 ≤ u.freeCount then false else u.latch } := by
  unfold latchClear
  split
  · rename_i h
    rw [if_pos (show s.freeCount < 4 ∧ 4 ≤ u.freeCount from h)]
  · rename_i h
    rw [if_neg (show ¬(s.freeCount < 4 ∧ 4 ≤ u.freeCount) from h)]

theorem followLatch_of_no_new_stall (h : u.latch = true ∨ ∀ p : Pair, u.stalled p = true → s.stalled p = true) :
    followLatch s u = { u with latch := if s.freeCount < 4 ∧ 4 ≤ u.freeCount then false else u.latch } := by
  rw [followLatch, latchSet_of_no_new_stall h, latchClear_eq]

theorem State.stalled_spec {p : Pair} (h : u.stalled p = true) :
    ∃ (r : TagRecord) (pl : Place), u.tag p = some r ∧ r.place = some pl ∧ r.verdict = .committed ∧
      u.candidate p r pl = true ∧ u.captureOk r pl = false := by
  unfold State.stalled at h
  split at h
  · rename_i r hr
    split at h
    · rename_i pl hpl
      simp only [Bool.and_eq_true, decide_eq_true_eq, Bool.not_eq_true'] at h
      exact ⟨r, pl, hr, hpl, h.1.1, h.1.2, h.2⟩
    · cases h
  · cases h

theorem State.freeCount_eq_zero_of_stalled {p : Pair} (h : u.stalled p = true) : u.freeCount = 0 := by
  by_contra hpos
  exact absurd h (by rw [State.stalled_eq_false_of_free (Nat.pos_of_ne_zero hpos)]; decide)

theorem exhaustedEvent_eq {p : Pair} {r : TagRecord} {pl : Place} (hr : u.tag p = some r) (hpl : r.place = some pl) :
    exhaustedEvent u p = recordEvent .captureExhausted p pl (u.entriesWhere CaptureEntry.isStrand).length
      (u.entriesWhere CaptureEntry.isCaptured).length := by
  have hbind : (u.tag p).bind (·.place) = some pl := by rw [hr]; exact hpl
  rw [exhaustedEvent, hbind]
  rfl

/-- A clear latch is set with the record of the first newly stalled read in turn, and no entry being FREE it stays set. -/
theorem followLatch_of_new_stall (hlatch : u.latch = false) (hnew : ∃ p : Pair, u.stalled p = true ∧ s.stalled p = false) :
    ∃ p : Pair, u.stalled p = true ∧ s.stalled p = false ∧
      (u.firstInTurn fun p => u.stalled p && !s.stalled p) = some p ∧
      followLatch s u = { u.raise (exhaustedEvent u p) with latch := true } := by
  obtain ⟨q, hq, hsq⟩ := hnew
  obtain ⟨p, hp⟩ := u.firstInTurn_isSome (f := fun p => u.stalled p && !s.stalled p) (p := q) (by simp [hq, hsq])
  obtain ⟨hnewp, -⟩ := u.firstInTurn_spec hp
  simp only [Bool.and_eq_true, Bool.not_eq_true'] at hnewp
  have unset : ¬u.latch = true := by simp [hlatch]
  have set : latchSet s u = { u.raise (exhaustedEvent u p) with latch := true } := by
    rw [latchSet, if_neg unset, hp]
  have none_free : ({ u.raise (exhaustedEvent u p) with latch := true } : State).freeCount = 0 :=
    State.freeCount_eq_zero_of_stalled hnewp.1
  refine ⟨p, hnewp.1, hnewp.2, hp, ?_⟩
  rw [followLatch, set, latchClear_eq, none_free, if_neg (by omega)]

end

theorem settle_of_lowest {s u : State} {i : Initiator} {p : Pair} (hfound : u.readyUnlock i = some p)
    (hlowest : ∀ j : Initiator, j < i → u.readyUnlock j = none) : settle s u = settle s (performUnlock p u) := by
  rw [settle, settle, performUnlocks_of_lowest hfound hlowest]

/-- Settles O3: the first performing is taken out in front, a due drain is completed, and then the latch follows by the reads
that the event has stalled. -/
theorem settledEventsOnlyMoveTheLatch : Obligations.SettledEventsOnlyMoveTheLatch := by
  intro s u
  refine ⟨?_, fun r n hnone hdrain hunused => ?_, settle_of_settled s,
    followLatch_of_no_new_stall, fun hlatch hnew => ?_, fun hs hstall hfree => ?_⟩
  · intro i p hlaw hfound hlowest gone
    obtain ⟨hp, hready⟩ := State.ready_of_readyUnlock hfound
    rw [settle_of_lowest hfound hlowest]
    refine ⟨fun k v hslot hv => ⟨fun m hstate => ?_, fun t hstate => ?_⟩, fun hheld => ?_⟩
    · rw [performUnlock_of_reserved hlaw hready hp hslot hv hstate]
    · rw [performUnlock_of_writing hlaw hready hp hslot hv hstate]
    · rw [performUnlock_of_none_held hlaw hready hp hheld]
  · refine ⟨State.changed { u with apply := .idle } r, rfl, regions_makeChange r _, entries_makeChange r _, rfl, ?_⟩
    intro left discarded
    rw [settle, performUnlocks_of_none_ready hnone, completeDrain_of_unused hdrain hunused, makeChange_eq]
    rfl
  · obtain ⟨p, hp, hsp, hfirst, hfollow⟩ := followLatch_of_new_stall hlatch hnew
    obtain ⟨r, pl, hr, hpl, -⟩ := State.stalled_spec hp
    refine ⟨p, r, pl, hp, hsp, hr, hpl, fun q v hq hsq hv => ?_, ?_⟩
    · obtain ⟨hturn, horder⟩ := (u.firstInTurn_spec hfirst).2 q (by simp [hq, hsq])
      rw [State.orderOf_eq u hr, State.orderOf_eq u hv] at horder
      exact ⟨hturn, horder⟩
    · rw [hfollow, exhaustedEvent_eq hr hpl]
      rfl
  · rw [settle_of_settled s hs, followLatch_of_no_new_stall (.inr hstall), if_neg (by omega)]

end Sys2Proof.Machine
end

section
/-! SUPPORT. Footprints and granules in the terms of the statements, the requests that steps 4 to 6 turn away or take, and the
statements about READ, WRITE, LOCK-WRITE and UNLOCK at acceptance. -/

namespace Sys2Proof.Machine

/-! ## Footprints and granules (R3, R129) -/

theorem mem_beatBytes {size : BeatSize} {base a : Nat} : a ∈ beatBytes size base ↔ base ≤ a ∧ a < base + size.bytes := by
  simp only [beatBytes, List.mem_map, List.mem_range]
  exact ⟨fun ⟨k, hk, he⟩ => by omega, fun h => ⟨a - base, by omega⟩⟩

theorem mem_footprint {pl : Place} {size : BeatSize} {count a : Nat} : a ∈ footprint pl size count ↔
    match pl.mode with
    | .fixed => pl.start.toNat ≤ a ∧ a < pl.start.toNat + size.bytes
    | .step => ∃ b : Nat, b < count ∧
        let first := pl.base.toNat + (pl.start.toNat - pl.base.toNat + b * size.bytes) % pl.span
        first ≤ a ∧ a < first + size.bytes := by
  unfold footprint
  cases hmode : pl.mode with
  | fixed => exact mem_beatBytes
  | step =>
    simp only [List.mem_flatMap, List.mem_range, mem_beatBytes, beatAddress, hmode]
    rfl

theorem granuleOf_toNat (a : TAddr) : (granuleOf a).toNat = a.toNat / 8 * 8 := by
  have lt := a.isLt
  rw [granuleOf, BitVec.toNat_ofNat, Nat.mod_eq_of_lt (by omega)]

theorem touchesGranule_iff {bytes : List Nat} {g : TAddr} :
    touchesGranule bytes g = true ↔ ∃ b ∈ bytes, g.toNat ≤ b ∧ b < g.toNat + 8 := by
  simp [touchesGranule]

theorem State.reservedAgainst_iff {s : State} {i : Initiator} {select : Select} {bytes : List Nat} :
    s.reservedAgainst i select bytes = true ↔ Touches s i select bytes := by
  simp only [State.reservedAgainst, State.isSome_slotWhere_iff, Bool.and_eq_true, Bool.not_eq_true', decide_eq_true_eq,
    decide_eq_false_iff_not, touchesGranule_iff, Touches, and_assoc]

theorem State.drains_iff {s : State} {r : RegionIx} : s.drains r = true ↔ ∃ n : Nat, s.apply = .draining r n := by
  unfold State.drains
  split <;> simp_all

/-! ## States that hold more than another -/

/-- What the checks and counts read of a reservation, its state and lock-read record aside. -/
def Reservation.key (v : Reservation) : Initiator × Select × TAddr × RegionIx := (v.initiator, v.select, v.granule, v.region)

/-- `u` has the region table, apply state and capture entries of `s`, its records, and others on pairs free in `s` at most,
and in the slots in use reservations for the same initiators and granules. -/
structure Extends (s u : State) : Prop where
  regions : u.regions = s.regions
  apply : u.apply = s.apply
  entries : u.entries = s.entries
  tags : ∀ p, u.tag p = s.tag p ∨ s.tag p = none
  slots : ∀ k : SlotIx, ∀ v ∈ s.slots[k], ∃ w ∈ u.slots[k], w.key = v.key

namespace Extends

variable {s u : State} (h : Extends s u)
include h

theorem anyRecord {i : Initiator} {f : TagRecord → Bool} (hs : s.anyRecord i f = true) : u.anyRecord i f = true := by
  obtain ⟨t, w, hw, hf⟩ := State.anyRecord_iff.1 hs
  obtain same | free := h.tags ⟨i, t⟩
  · exact State.anyRecord_iff.2 ⟨t, w, same.trans hw, hf⟩
  · rw [free] at hw
    cases hw

theorem tag_of_ready {p : Pair} (hready : u.Ready p) (hlive : u.tag p = s.tag p) : s.Ready p := by
  obtain ⟨r, hr, hkind, hverdict, hwaiting, hnone⟩ := hready
  refine ⟨r, hlive ▸ hr, hkind, hverdict, hwaiting, ?_⟩
  rw [← Bool.not_eq_true] at hnone ⊢
  exact mt h.anyRecord hnone

theorem useCount (r : RegionIx) : s.useCount r ≤ u.useCount r := by
  have records : s.recordUses r ≤ u.recordUses r := by
    refine List.countP_mono_left fun p _ hp => ?_
    obtain same | free := h.tags p
    · rwa [same]
    · simp [free] at hp
  have entries : s.entryUses r = u.entryUses r := by simp only [State.entryUses, State.entriesWhere, h.entries]
  have slots : s.slotUses r ≤ u.slotUses r := by
    refine List.countP_mono_left fun k _ hk => ?_
    obtain ⟨v, hv, hregion⟩ := (Option.any_eq_true _ _).1 hk
    obtain ⟨w, hw, hkey⟩ := h.slots k v hv
    have same : w.region = v.region := congrArg (·.2.2.2) hkey
    exact (Option.any_eq_true _ _).2 ⟨w, hw, by rwa [same]⟩
  simp only [State.useCount]
  omega

theorem drainDue (hs : s.drainDue = false) : u.drainDue = false := by
  unfold State.drainDue at hs ⊢
  rw [h.apply]
  split at hs
  · rfl
  · rename_i r n _
    have more := h.useCount r
    rw [decide_eq_false_iff_not] at hs ⊢
    omega

/-- Nothing is due if no UNLOCK that has joined is ready. -/
theorem settled (hs : Settled s) (hnew : ∀ p, s.tag p = none → ¬u.Ready p) : Settled u := by
  obtain ⟨hready, hdrain⟩ := hs
  refine ⟨fun i => State.readyUnlock_eq_none_iff.2 fun p hp hu => ?_, h.drainDue hdrain⟩
  obtain same | free := h.tags p
  · exact State.readyUnlock_eq_none_iff.1 (hready i) p hp (h.tag_of_ready hu same)
  · exact hnew p free hu

theorem freeCount : u.freeCount = s.freeCount := by
  unfold State.freeCount
  congr 1
  funext e
  simp only [State.isFree, h.entries]

theorem candidate {p : Pair} {r : TagRecord} {pl : Place} (hu : u.candidate p r pl = true) : s.candidate p r pl = true := by
  have order (f : TagRecord → Bool) : (!u.anyRecord p.initiator f) = true → (!s.anyRecord p.initiator f) = true := by
    simp only [Bool.not_eq_true', ← Bool.not_eq_true]
    exact mt h.anyRecord
  have reserved : (!u.reservedAgainst p.initiator pl.select (footprint pl r.size r.count)) = true →
      (!s.reservedAgainst p.initiator pl.select (footprint pl r.size r.count)) = true := by
    simp only [Bool.not_eq_true', ← Bool.not_eq_true]
    refine mt fun htouch => State.reservedAgainst_iff.2 ?_
    obtain ⟨k, v, hv, hi, hsel, hb⟩ := State.reservedAgainst_iff.1 htouch
    obtain ⟨w, hw, hkey⟩ := h.slots k v hv
    have initiator : w.initiator = v.initiator := congrArg (·.1) hkey
    have select : w.select = v.select := congrArg (·.2.1) hkey
    have granule : w.granule = v.granule := congrArg (·.2.2.1) hkey
    exact ⟨k, w, hw, initiator ▸ hi, select.trans hsel, granule ▸ hb⟩
  simp only [State.candidate, State.orderOk, State.reservationOk, Bool.and_eq_true] at hu ⊢
  obtain ⟨⟨hform, horder⟩, hreserved⟩ := hu
  refine ⟨⟨hform, ?_⟩, reserved hreserved⟩
  split at horder
  · rename_i hordered
    rw [if_pos hordered]
    exact order _ horder
  · rename_i hunordered
    rw [if_neg hunordered]
    exact order _ horder

/-- A record of both states that is stalled was stalled before. -/
theorem stalled {p : Pair} (hp : u.tag p = s.tag p) (hu : u.stalled p = true) : s.stalled p = true := by
  obtain ⟨r, pl, hr, hpl, hverdict, hcandidate, hcapture⟩ := State.stalled_spec hu
  rw [State.captureOk_congr h.entries h.regions] at hcapture
  simp only [State.stalled, ← hp, hr, hpl, hverdict, h.candidate hcandidate, hcapture]
  rfl

/-- Where the records that have joined are neither ready nor stalled, the event brings nothing else about. -/
theorem settle_eq (hs : Settled s) (hready : ∀ p, s.tag p = none → ¬u.Ready p)
    (hstall : ∀ p, s.tag p = none → u.stalled p = false) : settle s u = u := by
  rw [settle_of_settled s (h.settled hs hready)]
  refine followLatch_of_same (fun p hp => ?_) h.freeCount
  obtain same | free := h.tags p
  · exact h.stalled same hp
  · rw [hstall p free] at hp
    cases hp

end Extends

/-- A record that is no guarded read is not stalled. -/
theorem State.stalled_eq_false_of_unguarded {u : State} {p : Pair}
    (h : ∀ r ∈ u.tag p, ∀ pl ∈ r.place, r.guarded pl = false) : u.stalled p = false := by
  rw [← Bool.not_eq_true]
  intro hu
  obtain ⟨r, pl, hr, hpl, -, -, hcapture⟩ := State.stalled_spec hu
  simp [State.captureOk, h r hr pl hpl] at hcapture

/-! ## The requests that pass the address checks (R25) -/

section
variable {kind : Kind} {q : Request} {s : State} {r : RegionIx} {c : RegionClass}

/-- Past the address checks the draining check comes, and then the lock checks of the kind. -/
theorem addressed_of_inside (hmatch : matchRegion s.regions q.address = some (r, c))
    (halign : q.address.toNat % (beatSizeOf q.sizeCode).bytes = 0) (hinside : ¬LeavesWindow s.regions[r] q) :
    addressed kind q s =
      if s.drains r then s.respond (.retry q.pair .draining)
      else match kind with
        | .read => plainLockCheck .read q (copiedPlace s.regions[r] r c none q.address) s
        | .write => plainLockCheck .write q (copiedPlace s.regions[r] r c none q.address) s
        | .lockRead => lockReadCheck q s.regions[r].lock s.regions[r].lockLimit
            (copiedPlace s.regions[r] r c (some s.regions[r].lockLimit) q.address) s
        | .lockWrite => lockWriteCheck q (copiedPlace s.regions[r] r c none q.address) s
        | .unlock => take .unlock q none s := by
  have aligned : ¬q.address.toNat % (requestSize q).bytes ≠ 0 := not_not.2 halign
  have whole : ¬splits s.regions[r] q = true := mt (splits_iff _ _).1 hinside
  simp only [addressed, hmatch, if_neg aligned, if_neg whole]
  split
  · rfl
  · cases kind <;> rfl

theorem accept_plain_of_reachesLocks (hkind : kind = .read ∨ kind = .write) (h : ReachesLocks kind q s r c) :
    accept kind q s = plainLockCheck kind q (copiedPlace s.regions[r] r c none q.address) s := by
  obtain ⟨hreach, hmatch, halign, hinside, hopen⟩ := h
  obtain rfl | rfl := hkind <;>
    rw [accept_of_reachesAddress (by simp) hreach, addressed_of_inside hmatch halign hinside, if_neg (by simp [hopen])]

theorem accept_lockWrite_of_reachesLocks (h : ReachesLocks .lockWrite q s r c) :
    accept .lockWrite q s = lockWriteCheck q (copiedPlace s.regions[r] r c none q.address) s := by
  obtain ⟨hreach, hmatch, halign, hinside, hopen⟩ := h
  rw [accept_of_reachesAddress (by simp) hreach, addressed_of_inside hmatch halign hinside, if_neg (by simp [hopen])]

theorem plainLockCheck_of_touches {pl : Place}
    (h : Touches s q.initiator pl.select (footprint pl (beatSizeOf q.sizeCode) q.count.toNat)) :
    plainLockCheck kind q pl s = s.respond (.retry q.pair .reserved) := if_pos (State.reservedAgainst_iff.2 h)

theorem plainLockCheck_of_untouched {pl : Place}
    (h : ¬Touches s q.initiator pl.select (footprint pl (beatSizeOf q.sizeCode) q.count.toNat)) :
    plainLockCheck kind q pl s = take kind q (some pl) s := if_neg (mt State.reservedAgainst_iff.1 h)

end

/-- Settles O10: either answer leaves the tables as they were, so nothing comes of it at the event's end. -/
theorem closedRegionsAndGranulesRetry : Obligations.ClosedRegionsAndGranulesRetry := by
  refine ⟨fun r s => State.drains_iff, ?_⟩
  intro kind q s r c hkind hs hreach hmatch halign hinside
  have retried (reason : Reason) : AddsIdleRecords s (s.respond (.retry q.pair reason)) :=
    (AddsIdleRecords.refl s).respond _
  refine ⟨fun hdrains => ?_, fun hopen hplain htouches => ?_⟩
  · refine exec_of_addressed hkind hs hreach ?_ (retried _)
    rw [addressed_of_inside hmatch halign hinside, if_pos hdrains]
  · have haccept := accept_plain_of_reachesLocks hplain ⟨hreach, hmatch, halign, hinside, hopen⟩
    exact exec_of_accept hs (haccept.trans (plainLockCheck_of_touches htouches)) (retried _)

/-! ## What a taken request leaves -/

section
variable {q : Request} {s : State}

/-- The record of a READ or LOCK-READ that is taken. -/
def readTaken (kind : Kind) (q : Request) (pl : Place) (order : Nat) : TagRecord :=
  { recordWith kind q (some pl) order with timer := startTimer q pl.verdictLimit }

/-- The record of a WRITE or LOCK-WRITE that is taken, with the low-order bytes of its data slots. -/
def writeTaken (kind : Kind) (q : Request) (pl : Place) (order : Nat) (response : ResponseState) : TagRecord :=
  { recordWith kind q (some pl) order with
    timer := startTimer q pl.verdictLimit
    response := response
    data := q.slots.map fun w => BitVec.ofNat 32 (w.toNat % 2 ^ (8 * (beatSizeOf q.sizeCode).bytes)) }

theorem take_read (pl : Place) :
    take .read q (some pl) s = s.joinedBy q (readTaken .read q pl s.acceptance[q.initiator]) := rfl

theorem take_write (pl : Place) : take .write q (some pl) s =
    (s.joinedBy q (writeTaken .write q pl s.acceptance[q.initiator] .sent)).respond (.ack q.pair .ok) := rfl

theorem take_lockWrite (pl : Place) (k : SlotIx) (v : Option Reservation) : take .lockWrite q (some pl) (s.setSlot k v) =
    (s.joinedBy q (writeTaken .lockWrite q pl s.acceptance[q.initiator] .pending)).setSlot k v := rfl

theorem extends_joinedBy (hfree : s.tag q.pair = none) (r : TagRecord) : Extends s (s.joinedBy q r) where
  regions := rfl
  apply := rfl
  entries := rfl
  tags p := by
    rw [State.tag_joinedBy]
    split
    · rename_i hp
      exact .inr (hp ▸ hfree)
    · exact .inl rfl
  slots _ v hv := ⟨v, hv, rfl⟩

/-- On a free pair only the record that joined can be there anew. -/
theorem tag_joinedBy_of_free {r w : TagRecord} {p : Pair} (hs : s.tag p = none) (hu : (s.joinedBy q r).tag p = some w) :
    p = q.pair ∧ w = r := by
  rw [State.tag_joinedBy] at hu
  split at hu
  · exact ⟨‹_›, (Option.some_inj.1 hu).symm⟩
  · rw [hs] at hu
    cases hu

theorem not_ready_joinedBy {r : TagRecord} (hkind : r.kind ≠ .unlock) {p : Pair} (hs : s.tag p = none) :
    ¬(s.joinedBy q r).Ready p := by
  rintro ⟨w, hw, hw', -⟩
  obtain ⟨-, rfl⟩ := tag_joinedBy_of_free hs hw
  exact hkind hw'

end

/-- An entry is valid if it is OFF or none of the bullets of R8 holds of it; the select and the upper limits of the verdict
limit, the strand window and the lock limit are in range by the width of their fields. -/
theorem RegionEntry.valid_iff (e : RegionEntry) : e.valid = true ↔ e.cls = 0 ∨
    ((12 ≤ e.hostExp.toNat ∧ e.hostExp.toNat ≤ 32) ∧ (2 ≤ e.spanExp.toNat ∧ e.spanExp.toNat ≤ 28) ∧
      2 ^ e.spanExp.toNat ≤ 2 ^ e.hostExp.toNat ∧
      e.hostBase.toNat % 2 ^ e.hostExp.toNat = 0 ∧ e.targetBase.toNat % 2 ^ e.spanExp.toNat = 0 ∧
      e.select.val ≤ 3 ∧ (e.cls = 1 ∨ e.cls = 2 ∨ e.cls = 3) ∧ (e.mode = 0 ∨ e.mode = 1) ∧
      ¬(e.lock = true ∧ e.cls = 3) ∧
      e.verdictLimit.toNat ≤ 4095 ∧ e.strandWindow.toNat ≤ 65535 ∧ 1 ≤ e.lockLimit.toNat ∧ e.lockLimit.toNat ≤ 1023) := by
  have named : (classOf e.cls).isSome = true ↔ e.cls = 1 ∨ e.cls = 2 ∨ e.cls = 3 := by
    rw [Option.isSome_iff_ne_none, Ne, classOf_eq_none_iff, not_not]
  have mode : e.mode.toNat ≤ 1 ↔ e.mode = 0 ∨ e.mode = 1 := by bv_omega
  have span : 2 ^ e.spanExp.toNat ≤ 2 ^ e.hostExp.toNat ↔ e.spanExp.toNat ≤ e.hostExp.toNat :=
    Nat.pow_le_pow_iff_right (by decide)
  have select : e.select.val ≤ 3 := by omega
  have verdict : e.verdictLimit.toNat ≤ 4095 := by have := e.verdictLimit.isLt; omega
  have window : e.strandWindow.toNat ≤ 65535 := by have := e.strandWindow.isLt; omega
  have lock : e.lockLimit.toNat ≤ 1023 := by have := e.lockLimit.isLt; omega
  have captures : (!(e.lock && decide (e.cls = 3))) = true ↔ ¬(e.lock = true ∧ e.cls = 3) := by
    cases e.lock <;> simp
  rw [RegionEntry.valid, Bool.or_eq_true, decide_eq_true_eq]
  refine or_congr_right ?_
  simp only [RegionEntry.hostSize, RegionEntry.span, Bool.and_eq_true, decide_eq_true_eq, named, mode, captures]
  exact ⟨fun ⟨⟨⟨⟨⟨⟨⟨⟨hcls, hmode⟩, hhost⟩, htarget⟩, hle⟩, hbase⟩, hstart⟩, hlock⟩, hlimit⟩ =>
      ⟨hhost, htarget, span.2 hle, of_decide_eq_true hbase, of_decide_eq_true hstart, select, hcls,
        hmode, hlock, verdict, window, hlimit, lock⟩,
    fun ⟨hhost, htarget, hle, hbase, hstart, _, hcls, hmode, hlock, _, _, hlimit, _⟩ =>
      ⟨⟨⟨⟨⟨⟨⟨⟨hcls, hmode⟩, hhost⟩, htarget⟩, span.1 hle⟩, decide_eq_true hbase⟩, decide_eq_true hstart⟩, hlock⟩, hlimit⟩⟩

/-- The translated start of a record of a valid entry does not wrap: the target base is aligned to the span (R5, R8). -/
theorem copiedPlace_start {e : RegionEntry} {r : RegionIx} {c : RegionClass} {limit : Option (BitVec 10)} {a : Word}
    (hcls : e.cls ≠ 0) (hvalid : e.valid = true) : (copiedPlace e r c limit a).start.toNat =
      e.targetBase.toNat + (a.toNat - e.hostBase.toNat) % 2 ^ e.spanExp.toNat := by
  obtain ⟨-, ⟨-, hspan⟩, -, -, haligned, -⟩ := (e.valid_iff.1 hvalid).resolve_left hcls
  have within : (a.toNat - e.hostBase.toNat) % 2 ^ e.spanExp.toNat < 2 ^ e.spanExp.toNat := Nat.mod_lt _ (Nat.two_pow_pos _)
  have whole : 2 ^ e.spanExp.toNat ∣ 2 ^ 28 := Nat.pow_dvd_pow 2 hspan
  obtain ⟨m, hm⟩ := Nat.dvd_of_mod_eq_zero haligned
  obtain ⟨n, hn⟩ := whole
  have base := e.targetBase.isLt
  have room : e.targetBase.toNat + 2 ^ e.spanExp.toNat ≤ 2 ^ 28 := by
    rw [hm, hn] at base ⊢
    have := Nat.lt_of_mul_lt_mul_left base
    calc _ = 2 ^ e.spanExp.toNat * (m + 1) := (Nat.mul_succ _ _).symm
      _ ≤ _ := Nat.mul_le_mul_left _ this
  change (BitVec.ofNat 28 (e.targetBase.toNat + (a.toNat - e.hostBase.toNat) % 2 ^ e.spanExp.toNat)).toNat = _
  rw [BitVec.toNat_ofNat, Nat.mod_eq_of_lt (by omega)]

/-- The entry of a match is of a named class, and so not OFF. -/
theorem matchRegion_cls {s : State} {a : Word} {r : RegionIx} {c : RegionClass}
    (h : matchRegion s.regions a = some (r, c)) : s.regions[r].cls ≠ 0 := by
  have hcls := (((theLowestWindowMatches s.regions a).1 r c).1 h).1
  rw [hcls]
  cases c <;> decide

/-- Settles O11: the record only adds to what is in use, so that the latch is all that can follow. -/
theorem readsAreTaken : Obligations.ReadsAreTaken := by
  intro q s r c hs hreach pl size
  have haccept := accept_plain_of_reachesLocks (.inl rfl) hreach
  obtain ⟨⟨-, hfree, -⟩, hmatch, -⟩ := hreach
  refine ⟨fun huntouched => ?_, fun hvalid => copiedPlace_start (matchRegion_cls hmatch) hvalid, fun a => mem_footprint⟩
  have htaken : accept .read q s = s.joinedBy q (readTaken .read q pl s.acceptance[q.initiator]) :=
    haccept.trans ((plainLockCheck_of_untouched huntouched).trans (take_read pl))
  have hsettled : Settled (s.joinedBy q (readTaken .read q pl s.acceptance[q.initiator])) :=
    (extends_joinedBy hfree _).settled hs fun p => not_ready_joinedBy (by simp [readTaken, recordWith])
  calc exec (.read q) s
      = .next (settle s (accept .read q s)) := exec_requestOf .read q s
    _ = _ := by rw [htaken, settle_of_settled s hsettled]; rfl

/-- Settles O12: the record is no UNLOCK and no read, so nothing comes of it at the event's end. -/
theorem writesArePosted : Obligations.WritesArePosted := by
  intro q s r c hs hreach pl huntouched
  have haccept := accept_plain_of_reachesLocks (.inr rfl) hreach
  obtain ⟨⟨-, hfree, -⟩, -⟩ := hreach
  have htaken : accept .write q s =
      (s.joinedBy q (writeTaken .write q pl s.acceptance[q.initiator] .sent)).respond (.ack q.pair .ok) :=
    haccept.trans ((plainLockCheck_of_untouched huntouched).trans (take_write pl))
  have hextends := extends_joinedBy hfree (writeTaken .write q pl s.acceptance[q.initiator] .sent)
  have hsame : settle s ((s.joinedBy q (writeTaken .write q pl s.acceptance[q.initiator] .sent)).respond
      (.ack q.pair .ok)) = _ :=
    Extends.settle_eq ⟨hextends.regions, hextends.apply, hextends.entries, hextends.tags, hextends.slots⟩ hs
      (fun p => not_ready_joinedBy (by simp [writeTaken, recordWith]))
      fun p hp => State.stalled_eq_false_of_unguarded fun w hw x _ => by
        obtain ⟨-, rfl⟩ := tag_joinedBy_of_free hp hw
        rfl
  calc exec (.write q) s
      = .next (settle s (accept .write q s)) := exec_requestOf .write q s
    _ = _ := by rw [htaken, hsame]; rfl

/-! ## The checks of a LOCK-WRITE (R136) -/

section
variable {q : Request} {s : State} {pl : Place} {k : SlotIx} {v : Reservation}

theorem lockWriteCheck_of_none_held (hnone : ∀ k : SlotIx, ∀ v ∈ s.slots[k], v.initiator ≠ q.initiator) :
    lockWriteCheck q pl s = (s.setLockLost q.initiator false).refusedWith .lockWrite q .lockLost := by
  have hheld : s.held q.initiator = none := State.slotWhere_eq_none_iff.2 fun k v hv => by simpa using hnone k v hv
  simp only [lockWriteCheck, hheld, refuse_eq_refusedWith]

variable (hlaw : LockLaw s) (hslot : s.slots[k] = some v) (hv : v.initiator = q.initiator)
include hlaw hslot hv

theorem lockWriteCheck_of_writing {t : Tag} (hstate : v.state = .writing t) :
    lockWriteCheck q pl s = s.refusedWith .lockWrite q .lockDenied := by
  have hheld : s.held q.initiator = some (k, v) := State.slotWhere_eq_some hlaw hslot (by simp [hv]) (by simp [hv])
  simp only [lockWriteCheck, hheld, hstate, refuse_eq_refusedWith]

theorem lockWriteCheck_of_elsewhere {n : Nat} (hstate : v.state = .reserved n)
    (h : v.select ≠ pl.select ∨ ¬(v.granule.toNat = pl.start.toNat / 8 * 8)) :
    lockWriteCheck q pl s = s.refusedWith .lockWrite q .lockDenied := by
  have hheld : s.held q.initiator = some (k, v) := State.slotWhere_eq_some hlaw hslot (by simp [hv]) (by simp [hv])
  have outside : ¬(pl.select = v.select ∧ granuleOf pl.start = v.granule) := by
    rintro ⟨hselect, hgranule⟩
    rw [← hselect, ← hgranule, granuleOf_toNat] at h
    simp at h
  simp only [lockWriteCheck, hheld, hstate, if_neg outside, refuse_eq_refusedWith]

theorem lockWriteCheck_of_inside {n : Nat} (hstate : v.state = .reserved n) (hselect : v.select = pl.select)
    (hgranule : v.granule.toNat = pl.start.toNat / 8 * 8) : lockWriteCheck q pl s =
      (s.joinedBy q (writeTaken .lockWrite q pl s.acceptance[q.initiator] .pending)).setSlot k
        (some { v with state := .writing q.tag }) := by
  have hheld : s.held q.initiator = some (k, v) := State.slotWhere_eq_some hlaw hslot (by simp [hv]) (by simp [hv])
  have inside : pl.select = v.select ∧ granuleOf pl.start = v.granule :=
    ⟨hselect.symm, BitVec.eq_of_toNat_eq ((granuleOf_toNat _).trans hgranule.symm)⟩
  simp only [lockWriteCheck, hheld, hstate, if_pos inside, take_lockWrite]

end

/-- Settles O14: a refusal leaves an idle record at most; a taken LOCK-WRITE is no UNLOCK and no read, and its reservation
stays where it is. -/
theorem lockWritesNeedTheirReservation : Obligations.LockWritesNeedTheirReservation := by
  intro q s r c hs hlaw hreach pl
  have haccept := accept_lockWrite_of_reachesLocks hreach
  obtain ⟨⟨-, hfree, -⟩, -⟩ := hreach
  have decides {u : State} (hu : lockWriteCheck q pl s = u) (hidle : AddsIdleRecords s u) :
      exec (.lockWrite q) s = .next u := exec_of_accept (kind := .lockWrite) hs (haccept.trans hu) hidle
  have idle (status : Status) := addsIdleRecords_refusedWith .lockWrite q status hfree
  refine ⟨fun hnone => ?_, fun k v hslot hv => ⟨fun t hstate => ?_, fun n hstate => ⟨fun helsewhere => ?_,
    fun hselect hgranule => ?_⟩⟩⟩
  · have cleared := addsIdleRecords_refusedWith .lockWrite q .lockLost (s := s.setLockLost q.initiator false) hfree
    exact decides (lockWriteCheck_of_none_held hnone)
      ⟨cleared.regions, cleared.apply, cleared.entries, cleared.slots, cleared.tags⟩
  · exact decides (lockWriteCheck_of_writing hlaw hslot hv hstate) (idle _)
  · exact decides (lockWriteCheck_of_elsewhere hlaw hslot hv hstate helsewhere) (idle _)
  · have htaken := haccept.trans (lockWriteCheck_of_inside hlaw hslot hv hstate hselect hgranule)
    have hextends := extends_joinedBy hfree (writeTaken .lockWrite q pl s.acceptance[q.initiator] .pending)
    let u := (s.joinedBy q (writeTaken .lockWrite q pl s.acceptance[q.initiator] .pending)).setSlot k
      (some { v with state := .writing q.tag })
    have hsame : settle s u = u := by
      refine Extends.settle_eq ⟨hextends.regions, hextends.apply, hextends.entries, hextends.tags, fun l w hw => ?_⟩ hs
        (fun p => not_ready_joinedBy (by simp [writeTaken, recordWith]))
        fun p hp => State.stalled_eq_false_of_unguarded fun w hw x _ => by
          obtain ⟨-, rfl⟩ := tag_joinedBy_of_free hp hw
          rfl
      simp only [u, State.slots_setSlot]
      by_cases hl : l = k
      · subst hl
        obtain rfl : v = w := Option.some_inj.1 (hslot.symm.trans hw)
        exact ⟨_, if_pos rfl, rfl⟩
      · exact ⟨w, (if_neg hl).trans hw, rfl⟩
    calc exec (.lockWrite q) s
        = .next (settle s (accept .lockWrite q s)) := exec_requestOf .lockWrite q s
      _ = .next u := by rw [htaken]; exact congrArg Host.Outcome.next hsame

/-! ## The acceptance of an UNLOCK (R30, R141) -/

section
variable {q : Request} {s : State} {r : TagRecord}

/-- The records of live pairs stay as another joins. -/
theorem tag_joinedBy_of_live (hfree : s.tag q.pair = none) {p : Pair} {w : TagRecord} (hw : s.tag p = some w) :
    (s.joinedBy q r).tag p = some w := by
  rw [State.tag_joinedBy, if_neg, hw]
  rintro rfl
  rw [hfree] at hw
  cases hw

/-- What holds of some live record holds of it as another joins. -/
theorem any_joinedBy (hfree : s.tag q.pair = none) {p : Pair} {f : TagRecord → Bool} (hp : (s.tag p).any f = true) :
    ((s.joinedBy q r).tag p).any f = true := by
  obtain ⟨w, hw, hf⟩ := (Option.any_eq_true _ _).1 hp
  rw [tag_joinedBy_of_live hfree hw]
  exact hf

theorem tag_joinedBy_cases {p : Pair} {w : TagRecord} (hw : (s.joinedBy q r).tag p = some w) :
    p = q.pair ∧ w = r ∨ s.tag p = some w := by
  rw [State.tag_joinedBy] at hw
  split at hw
  · exact .inl ⟨‹_›, (Option.some_inj.1 hw).symm⟩
  · exact .inr hw

/-- A record that has no entry, is not ISSUED and is no LOCK-WRITE that waits joins without breaking a law. -/
theorem Lawful.joinedBy (hlaw : Lawful s) (hfree : s.tag q.pair = none) (hentry : r.entry = none)
    (hposition : r.position ≠ .issued) (hkind : r.kind = .lockWrite → r.position = .done) : Lawful (s.joinedBy q r) := by
  obtain ⟨hlock, ⟨hissued, haccess⟩, hnames, hwriting, hrecords, hentries, hopen⟩ := hlaw
  have any {p : Pair} {f : TagRecord → Bool} (hp : (s.tag p).any f = true) := any_joinedBy (r := r) hfree hp
  refine ⟨hlock, ⟨fun i t w hw hwrites hpos => ?_, fun a ha => ?_⟩, fun k v hv => ?_, fun i t w hw hlw hpos => ?_,
    fun i t w hw e he => ?_, fun e c hc => ?_, fun a ha => ?_⟩
  · obtain ⟨-, rfl⟩ | hw := tag_joinedBy_cases hw
    · exact absurd hpos hposition
    · exact hissued i t w hw hwrites hpos
  · obtain ⟨hlive, hrest⟩ := haccess a ha
    exact ⟨fun h => any (hlive h), hrest⟩
  · obtain ⟨hread, hwrite⟩ := hnames k v hv
    exact ⟨fun t ht => any (hread t ht), fun t ht => any (hwrite t ht)⟩
  · obtain ⟨-, rfl⟩ | hw := tag_joinedBy_cases hw
    · exact absurd (hkind hlw) hpos
    · exact hwriting i t w hw hlw hpos
  · obtain ⟨-, rfl⟩ | hw := tag_joinedBy_cases hw
    · rw [hentry] at he
      cases he
    · exact hrecords i t w hw e he
  · obtain ⟨hbound, hfilling⟩ := hentries e c hc
    exact ⟨fun p hp => any (hbound p hp), hfilling⟩
  · obtain ⟨hentry', hsame⟩ := hopen a ha
    refine ⟨hentry', fun hlive w hw => ?_⟩
    obtain ⟨x, hx, -⟩ := (Option.any_eq_true _ _).1 ((haccess a ha).1 hlive)
    obtain rfl : x = w := Option.some_inj.1 ((tag_joinedBy_of_live hfree hx).symm.trans hw)
    exact hsame hlive x hx

/-- A pair given what it names stays as it is. -/
theorem State.setTag_same {p : Pair} {x : Option TagRecord} (h : s.tag p = x) : s.setTag p x = s := by
  have inner : s.tags[p.initiator].set p.tag x = s.tags[p.initiator] := by
    rw [← h]
    exact Vector.set_getElem_self _
  have outer : s.tags.set p.initiator (s.tags[p.initiator].set p.tag x) = s.tags := by
    rw [inner]
    exact Vector.set_getElem_self _
  rw [State.setTag, outer]

/-- A record that joined and goes again leaves the count of its acceptance (R33). -/
theorem setTag_joinedBy (hfree : s.tag q.pair = none) : (s.joinedBy q r).setTag q.pair none =
    { s with acceptance := s.acceptance.set q.initiator (s.acceptance[q.initiator] + 1) } := by
  have gone : (s.setTag q.pair (some r)).setTag q.pair none = s := by
    rw [State.setTag_setTag, State.setTag_same hfree]
  calc _ = { (s.setTag q.pair (some r)).setTag q.pair none with
      acceptance := s.acceptance.set q.initiator (s.acceptance[q.initiator] + 1) } := rfl
    _ = _ := by rw [gone]

end

/-- The UNLOCK of a request, as it joins. -/
def State.unlockJoined (s : State) (q : Request) : State :=
  s.joinedBy q (recordWith .unlock q none s.acceptance[q.initiator])

/-- An older ordered record of the request's initiator is WAITING (R60). -/
abbrev ElderWaits (s : State) (q : Request) : Prop :=
  ∃ t : Tag, ∃ r ∈ s.tag ⟨q.initiator, t⟩, r.order < s.acceptance[q.initiator] ∧
    ¬(r.kind = .read ∧ r.place.map (·.cls) = some .pass) ∧ r.position = .waiting

section
variable {q : Request} {s : State}

theorem exec_unlock_of_reachesAddress (h : ReachesAddress .unlock q s) :
    exec (.unlock q) s = .next (settle s (s.unlockJoined q)) := by
  obtain ⟨hrun, hfree, hform⟩ := h
  have wellFormed : malformed .unlock q = false := by rwa [← malformed_iff, Bool.not_eq_true] at hform
  have htaken : accept .unlock q s = s.unlockJoined q := by
    simp only [accept, hrun, hfree, wellFormed]
    rfl
  rw [← htaken]
  exact exec_requestOf .unlock q s

/-- The UNLOCK that joins is ready unless it is speculative or an elder waits (R64). -/
theorem ready_unlockJoined_iff (hfree : s.tag q.pair = none) {p : Pair} (hs : s.tag p = none) :
    (s.unlockJoined q).Ready p ↔ p = q.pair ∧ q.speculative = false ∧ ¬ElderWaits s q := by
  have elder : (s.unlockJoined q).olderWaiting q.pair (recordWith .unlock q none s.acceptance[q.initiator]) = true ↔
      ElderWaits s q := by
    rw [State.olderWaiting_iff]
    refine exists_congr fun t => exists_congr fun w => ⟨fun ⟨hw, horder, hrest⟩ => ?_, fun ⟨hw, hrest⟩ => ?_⟩
    · obtain ⟨-, rfl⟩ | hw := tag_joinedBy_cases hw
      · exact absurd horder (lt_irrefl _)
      · exact ⟨hw, horder, hrest⟩
    · exact ⟨tag_joinedBy_of_live hfree hw, hrest⟩
  have verdict : (recordWith .unlock q none s.acceptance[q.initiator]).verdict = .committed ↔ q.speculative = false := by
    cases h : q.speculative <;> simp [recordWith, h]
  constructor
  · rintro ⟨w, hw, -, hverdict, -, hnone⟩
    obtain ⟨rfl, rfl⟩ := tag_joinedBy_of_free hs hw
    exact ⟨rfl, verdict.1 hverdict, mt elder.2 (Bool.eq_false_iff.1 hnone)⟩
  · rintro ⟨rfl, hspec, hwaits⟩
    refine ⟨_, (State.tag_joinedBy ..).trans (if_pos rfl), rfl, verdict.2 hspec, rfl, ?_⟩
    rwa [← Bool.not_eq_true, elder]

theorem stalled_unlockJoined {p : Pair} (hs : s.tag p = none) : (s.unlockJoined q).stalled p = false :=
  State.stalled_eq_false_of_unguarded fun w hw x hx => by
    obtain ⟨-, rfl⟩ := tag_joinedBy_of_free hs hw
    cases hx

end

/-- Settles O15: an UNLOCK that joins unready brings nothing else about; a ready one is performed at once, which leaves its
pair free, and its acceptance counted. -/
theorem unlocksWaitOrAct : Obligations.UnlocksWaitOrAct := by
  intro q s hs hlaw hreach waits counted
  rw [exec_unlock_of_reachesAddress hreach]
  obtain ⟨-, hfree, -⟩ := hreach
  have hextends : Extends s (s.unlockJoined q) := extends_joinedBy hfree _
  refine ⟨fun hwaits => ?_, fun hspec hwaits => ?_⟩
  · refine congrArg Host.Outcome.next (hextends.settle_eq hs (fun p hp hready => ?_) fun p => stalled_unlockJoined)
    obtain ⟨-, hspec, hnone⟩ := (ready_unlockJoined_iff hfree hp).1 hready
    exact hwaits.elim (by simp [hspec]) hnone
  have hready : (s.unlockJoined q).Ready q.pair := (ready_unlockJoined_iff hfree hfree).2 ⟨rfl, hspec, hwaits⟩
  have honly (p : Pair) (hp : (s.unlockJoined q).Ready p) : p = q.pair := by
    obtain same | free := hextends.tags p
    · exact absurd (hextends.tag_of_ready hp same) (State.readyUnlock_eq_none_iff.1 (hs.1 p.initiator) p rfl)
    · exact ((ready_unlockJoined_iff hfree free).1 hp).1
  have hfound : (s.unlockJoined q).readyUnlock q.initiator = some q.pair :=
    State.readyUnlock_eq_some rfl hready fun p _ hp => honly p hp
  have hothers (j : Initiator) (hj : j < q.initiator) : (s.unlockJoined q).readyUnlock j = none :=
    State.readyUnlock_eq_none_iff.2 fun p hp hp' => by
      obtain rfl := honly p hp'
      exact hj.ne hp.symm
  have hlawful : Lawful (s.unlockJoined q) :=
    hlaw.joinedBy hfree rfl (by simp [recordWith]) (by simp [recordWith])
  have hgone : (s.unlockJoined q).setTag q.pair none = counted := setTag_joinedBy hfree
  have hidle (u : State) (hu : AddsIdleRecords s u) : settle s u = u := hu.settle_eq hs
  rw [settle_of_lowest hfound hothers]
  refine ⟨fun k v hslot hv => ⟨fun n hstate => ?_, fun t hstate => ?_⟩, fun hnone => ?_⟩
  · rw [performUnlock_of_reserved hlawful hready rfl hslot hv hstate, hgone]
  · rw [performUnlock_of_writing hlawful hready rfl hslot hv hstate, hgone, hidle]
    exact ⟨rfl, rfl, rfl, rfl, fun p => .inl rfl⟩
  · rw [performUnlock_of_none_held hlawful hready rfl hnone, hgone, hidle]
    · rfl
    · exact ⟨rfl, rfl, rfl, rfl, fun p => .inl rfl⟩

end Sys2Proof.Machine
end

section
/-! SUPPORT. What a command can do at all, its own effects case by case; what holds of every settled event and of every step
because each effect keeps it. -/

namespace Sys2Proof.Machine

/-! ## The effects of the commands -/

/-- An own effect of the command, which the rest of the event then settles. -/
inductive Effect (c : Instr) (s : State) : State → Prop
  | reset (hc : c = .hostLinkReset) : Effect c s ((resetTables s).raise (hostResetEvent s))
  | request (kind : Kind) (q : Request) (hc : c = requestOf kind q) : Effect c s (accept kind q s)
  | commit (p : Pair) (r : TagRecord) (hc : c = .commit p) (hr : s.tag p = some r) (hverdict : r.verdict = .none) :
    Effect c s (releaseIfFinished p (s.setTag p (some r.madeCommitted)))
  | kill (p : Pair) (r : TagRecord) (hc : c = .kill p) (hr : s.tag p = some r) (hverdict : r.verdict = .none) :
    Effect c s (removeRecords [p] s)
  | flush (p : Pair) (r : TagRecord) (hc : c = .flush p) (hr : s.tag p = some r) :
    Effect c s (removeRecords (flushed p.initiator r.order s) s)
  | verdictExpiry (p : Pair) (r : TagRecord) (hc : c = .verdictTimerExpiry p) (hr : s.tag p = some r)
    (hdue : r.timer = some 0) (hverdict : r.verdict = .none) :
    Effect c s ((removeRecords [p] (abandon p r s)).raise (timeoutEvent p r))
  | strandExpiry (e : EntryIx) (x : CaptureEntry) (n : Nat) (hc : c = .strandTimerExpiry e) (hx : s.entries[e] = some x)
    (hdue : x.state = .stranded n (some 0)) : Effect c s ((s.setEntry e none).raise (strandExpiredEvent x))
  | lockBroken (k : SlotIx) (v : Reservation) (n cause : Nat)
    (hc : c = .lockTimerExpiry k ∨ ∃ i : Byte, c = .breakLock i) (hv : s.slots[k] = some v) (hstate : v.state = .reserved n) :
    Effect c s (breakReservation k v cause s)
  | ready (a : Access) (f : Flight) (lines : Word) (hc : c = .targetReady lines) (ha : s.access = some a)
    (hf : a.flight = some f) : Effect c s (beatReady a f.beat lines s)
  | failure (a : Access) (f : Flight) (timeout : Bool) (hc : (∃ b : Bool, c = .targetError b) ∨ c = .waitTimerExpiry)
    (ha : s.access = some a) (hf : a.flight = some f) : Effect c s (beatFails a f.beat timeout s)
  | drained (r : RegionIx) (n : Nat) (hc : c = .drainComplete) (hdrain : s.apply = .draining r n) (hunused : s.useCount r = 0) :
    Effect c s (completeDrain s)
  | grant (p : Pair) (r : TagRecord) (pl : Place) (hc : c = .grant) (hidle : s.access = none)
    (hfirst : s.firstInTurn s.eligible = some p) (hr : s.tag p = some r) (hpl : r.place = some pl) :
    Effect c s (grantRecord p r pl s)
  | unlock (i : Initiator) (p : Pair) (hc : c = .unlockPerform i) (hready : s.readyUnlock i = some p) :
    Effect c s (performUnlock p s)
  | change (index : Byte) (r : RegionIx) (hc : c = .applyRegion index) (hidle : s.apply = .idle)
    (hvalid : s.staging.valid = true) (hunused : s.useCount r = 0) : Effect c s (makeChange r s)
  | discard (scope region select : Byte) (address : Word) (hc : c = .discardStrands scope region select address) :
    Effect c s (discard (s.strandsInScope scope region select address) (scopeEvent scope region select address) s)

/-- What the command does, the management port aside. -/
inductive Acts (c : Instr) (s : State) : State → Prop
  | powered (b : Bool) (hc : c = .powerOnReset b) : Acts c s (s.poweredOn b)
  | ticked (hc : c = .timebaseTick) : Acts c s (expireAll allTimers (countTick s))
  | settles (u : State) (h : Effect c s u) : Acts c s (settle s u)
  | stays : Acts c s s
  | raises (e : EventRecord) (hc : ∃ p, c = .commit p ∨ c = .kill p ∨ c = .flush p) : Acts c s (s.raise e)
  | drainExpiry (r : RegionIx) (e : EventRecord) (hc : c = .drainTimerExpiry) (hdue : s.apply = .draining r 0) :
    Acts c s (({ s with apply := .idle } : State).raise e)
  | issues (a : Access) (hc : c = .beatIssue) (ha : s.access = some a) (hf : a.flight = none) : Acts c s (issueBeat a s)
  | takes (e : EventRecord) (rest : List EventRecord) (hc : c = .takeEvent) (he : s.events = e :: rest) :
    Acts c s { s with events := rest }
  | masks (m : BitVec 24) (hc : c = .setAlertMask m) : Acts c s { s with alertMask := m.setWidth 17 }
  | clears (hc : c = .clearOverflow) : Acts c s { s with overflow := false }
  | stages (record : Vector Byte 16) (hc : c = .stageRegion record) (hidle : s.apply = .idle) :
    Acts c s { s with staging := unpackRegion record.toList }
  | drains (index : Byte) (r : RegionIx) (hc : c = .applyRegion index) (hidle : s.apply = .idle)
    (hvalid : s.staging.valid = true) (hused : s.useCount r ≠ 0) : Acts c s { s with apply := .draining r (drainTicks s) }
  | limits (select limit : Byte) (hc : c = .setSelect select limit) (hlow : select.toNat < 4) (hlimit : limit ≠ 0) :
    Acts c s { s with waitLimits := s.waitLimits.set select.toNat limit }
  | operates (o : OperatingState) (hc : c = .hold ∨ c = .release) : Acts c s { s with operating := o }
  | reads (h : Vector Byte 12) (hc : c = .headerReadDone h) (hboot : s.boot = .header) :
    Acts c s { s with boot := bootAfterHeader h }
  | fails (h : Vector Byte 12) (body : List Byte) (f : ImageFailure) (hc : c = .endOfLoading body) :
    Acts c s (loadFailed h f s)
  | loads (h : Vector Byte 12) (body : List Byte) (hc : c = .endOfLoading body) (hboot : s.boot = .body h)
    (hcheck : checkBody h body = none) (hlength : body.length = 16 * h[5].toNat + 2) : Acts c s (loadValid h body s)

/-- The command moves the management port: it is one of the port's own rows, or comes in a frame. -/
abbrev MovesPort (c : Instr) : Prop := c = .frameStart ∨ c = .frameEnd ∨ (encodeFrame c).isSome = true

/-- What the command does, with the port that it leaves. -/
abbrev Does (c : Instr) (s t : State) : Prop :=
  ∃ w p, Acts c s w ∧ t = { w with port := p } ∧ (p = w.port ∨ MovesPort c)

section
variable {c : Instr} {s t : State}

theorem Acts.does (h : Acts c s t) : Does c s t := ⟨t, t.port, h, rfl, .inl rfl⟩

/-- What settles is done, whatever the form in which the answer is given. -/
theorem Effect.does {u : State} (h : Effect c s u) (ht : t = settle s u) : Does c s t := ht ▸ (Acts.settles u h).does

theorem does_self : Does c s s := Acts.stays.does

/-- A command of the port does what it replies with, or nothing, and moves the frame. -/
theorem does_takeCommand (hframe : (encodeFrame c).isSome = true) {code : Byte} {params : List Byte} {act : State → Reply}
    (hact : Acts c s (act s).state) : Does c s (takeCommand code params act s) := by
  obtain h | ⟨p, h⟩ := takeCommand_only code params act s
  · rw [h]
    exact does_self
  · exact ⟨(act s).state, p, hact, h, .inr (.inr (.inr hframe))⟩

theorem acts_unlessLoading {act : State → Reply} (hact : Acts c s (act s).state) : Acts c s (unlessLoading act s).state := by
  unfold unlessLoading
  split
  · exact .stays
  · exact hact

/-- One of two replies whose states are both acts. -/
theorem acts_ite {P : Prop} [Decidable P] {x y : Reply} (hx : P → Acts c s x.state) (hy : ¬P → Acts c s y.state) :
    Acts c s (if P then x else y).state := by
  split
  · exact hx ‹_›
  · exact hy ‹_›

theorem acts_applyStaged (index : Byte) (hc : c = .applyRegion index) : Acts c s (applyStaged index s).state := by
  by_cases hidle : s.apply = .idle
  · by_cases hbad : 16 ≤ index.toNat ∨ s.staging.valid = false
    · rw [applyStaged_of_bad hidle hbad]
      exact .stays
    · obtain ⟨hlow, hvalid⟩ := not_or.1 hbad
      rw [Bool.not_eq_false] at hvalid
      rw [applyStaged_of_good (r := ⟨index.toNat, by omega⟩) hidle hvalid rfl]
      exact acts_ite (fun hunused => .settles _ (.change index _ hc hidle hvalid hunused))
        fun hused => .drains index _ hc hidle hvalid hused
  · rw [applyStaged_of_draining hidle]
    exact .stays

theorem acts_discardCommand (scope region select : Byte) (address : Word)
    (hc : c = .discardStrands scope region select address) :
    Acts c s (discardCommand scope region select address s).state := by
  by_cases hbad : BadScope scope region select address
  · rw [discardCommand_of_bad hbad]
    exact .stays
  · rw [discardCommand_of_good hbad]
    exact .settles _ (.discard scope region select address hc)

theorem acts_breakCommand (i : Byte) (hc : c = .breakLock i) : Acts c s (breakCommand i s).state := by
  unfold breakCommand
  split
  · split
    · exact .stays
    · rename_i k v hheld
      obtain ⟨hslot, -⟩ := State.slots_of_slotWhere_eq_some hheld
      split
      · rename_i n hstate
        exact .settles _ (.lockBroken k v n 1 (.inr ⟨i, hc⟩) hslot hstate)
      · exact .stays
  · exact .stays

theorem acts_stageReply (record : Vector Byte 16) (hc : c = .stageRegion record) : Acts c s (stageReply record s).state := by
  by_cases hidle : s.apply = .idle
  · rw [stageReply_of_idle hidle]
    exact .stages record hc hidle
  · rw [stageReply_of_draining hidle]
    exact .stays

theorem acts_takeOldest (hc : c = .takeEvent) : Acts c s (takeOldest s).state := by
  unfold takeOldest
  split
  · exact .stays
  · rename_i e rest he
    exact .takes e rest hc he

end

/-! ## What a command does, by the command -/

section
variable {s t : State}

theorem does_commit {p : Pair} (h : execCommit p s = .next t) : Does (.commit p) s t := by
  unfold execCommit at h
  split at h
  · exact Host.Outcome.next.inj h ▸ (Acts.raises _ ⟨p, .inl rfl⟩).does
  · rename_i r hr
    split at h
    · exact Host.Outcome.next.inj h ▸ (Acts.raises _ ⟨p, .inl rfl⟩).does
    · rename_i hverdict
      exact (Effect.commit p r rfl hr hverdict).does (Host.Outcome.next.inj h).symm

theorem does_kill {p : Pair} (h : execKill p s = .next t) : Does (.kill p) s t := by
  unfold execKill at h
  split at h
  · exact Host.Outcome.next.inj h ▸ (Acts.raises _ ⟨p, .inr (.inl rfl)⟩).does
  · rename_i r hr
    split at h
    · exact Host.Outcome.next.inj h ▸ (Acts.raises _ ⟨p, .inr (.inl rfl)⟩).does
    · rename_i hverdict
      exact (Effect.kill p r rfl hr hverdict).does (Host.Outcome.next.inj h).symm

theorem does_flush {p : Pair} (h : execFlush p s = .next t) : Does (.flush p) s t := by
  unfold execFlush at h
  split at h
  · exact Host.Outcome.next.inj h ▸ (Acts.raises _ ⟨p, .inr (.inr rfl)⟩).does
  · rename_i r hr
    exact (Effect.flush p r rfl hr).does (Host.Outcome.next.inj h).symm

/-- What the expiry of a timer does: nothing, an own effect that the event then settles, or the end of a drain. -/
inductive Expiry (T : Timer) (s : State) : State → Prop
  | stays : Expiry T s s
  | settles (u : State) (h : Effect (expiryRow T) s u) : Expiry T s (settle s u)
  | drain (r : RegionIx) (e : EventRecord) (hT : T = .drain) (hdue : s.apply = .draining r 0) :
    Expiry T s (({ s with apply := .idle } : State).raise e)

theorem expiry_verdict (p : Pair) : Expiry (.verdict p) s (expireVerdict p s) := by
  unfold expireVerdict
  split
  · exact .stays
  · rename_i r hr
    split
    · rename_i hdue
      exact .settles _ (.verdictExpiry p r rfl hr hdue.1 hdue.2)
    · exact .stays

theorem expiry_strand (e : EntryIx) : Expiry (.strand e) s (expireStrand e s) := by
  unfold expireStrand
  split
  · exact .stays
  · rename_i x hx
    split
    · rename_i n hdue
      exact .settles _ (.strandExpiry e x n rfl hx hdue)
    all_goals exact .stays

theorem expiry_lock (k : SlotIx) : Expiry (.lock k) s (expireLock k s) := by
  unfold expireLock
  split
  · exact .stays
  · rename_i v hv
    split
    · rename_i hdue
      exact .settles _ (.lockBroken k v 0 0 (.inl rfl) hv hdue)
    · exact .stays

theorem expiry_drain : Expiry .drain s (expireDrain s) := by
  unfold expireDrain
  split
  · exact .stays
  · rename_i r n hdrain
    split
    · rename_i hzero
      exact .drain r _ rfl (hzero ▸ hdrain)
    · exact .stays

theorem expiry_wait : Expiry .wait s (expireWait s) := by
  unfold expireWait
  split
  · exact .stays
  · rename_i a ha
    split
    · exact .stays
    · rename_i f hf
      split
      · exact .settles _ (.failure a f true (.inr rfl) ha hf)
      · exact .stays

theorem expiry_expire (T : Timer) : Expiry T s (expire T s) := by
  cases T with
  | verdict p => exact expiry_verdict p
  | strand e => exact expiry_strand e
  | lock k => exact expiry_lock k
  | drain => exact expiry_drain
  | wait => exact expiry_wait

theorem Expiry.does {T : Timer} (h : Expiry T s t) : Does (expiryRow T) s t := by
  cases h with
  | stays => exact does_self
  | settles u hu => exact hu.does rfl
  | drain r e hT hdue => exact (Acts.drainExpiry r e (hT ▸ rfl) hdue).does

theorem does_drainComplete (h : execDrainComplete s = .next t) : Does .drainComplete s t := by
  unfold execDrainComplete at h
  split at h
  · exact Host.Outcome.next.inj h ▸ does_self
  · rename_i r n hdrain
    split at h
    · rename_i hunused
      exact (Effect.drained r n rfl hdrain hunused).does (Host.Outcome.next.inj h).symm
    · exact Host.Outcome.next.inj h ▸ does_self

theorem does_grant (h : execGrant s = .next t) : Does .grant s t := by
  unfold execGrant at h
  split at h
  · exact Host.Outcome.next.inj h ▸ does_self
  · rename_i hidle
    split at h
    · exact Host.Outcome.next.inj h ▸ does_self
    · rename_i p hfirst
      split at h
      · exact Host.Outcome.next.inj h ▸ does_self
      · rename_i r hr
        split at h
        · exact Host.Outcome.next.inj h ▸ does_self
        · rename_i pl hpl
          exact (Effect.grant p r pl rfl hidle hfirst hr hpl).does (Host.Outcome.next.inj h).symm

theorem does_beatIssue (h : execBeatIssue s = .next t) : Does .beatIssue s t := by
  unfold execBeatIssue at h
  split at h
  · exact Host.Outcome.next.inj h ▸ does_self
  · rename_i a ha
    split at h
    · exact Host.Outcome.next.inj h ▸ does_self
    · rename_i hf
      exact Host.Outcome.next.inj h ▸ (Acts.issues a rfl ha hf).does

theorem does_targetReady {lines : Word} (h : execTargetReady lines s = .next t) : Does (.targetReady lines) s t := by
  unfold execTargetReady at h
  split at h
  · exact Host.Outcome.next.inj h ▸ does_self
  · rename_i a ha
    split at h
    · exact Host.Outcome.next.inj h ▸ does_self
    · rename_i f hf
      exact (Effect.ready a f lines rfl ha hf).does (Host.Outcome.next.inj h).symm

theorem does_targetError {b : Bool} (h : execTargetError b s = .next t) : Does (.targetError b) s t := by
  unfold execTargetError at h
  split at h
  · exact Host.Outcome.next.inj h ▸ does_self
  · rename_i a ha
    split at h
    · exact Host.Outcome.next.inj h ▸ does_self
    · rename_i f hf
      exact (Effect.failure a f false (.inl ⟨b, rfl⟩) ha hf).does (Host.Outcome.next.inj h).symm

theorem does_unlockPerform {i : Initiator} (h : execUnlockPerform i s = .next t) : Does (.unlockPerform i) s t := by
  unfold execUnlockPerform at h
  split at h
  · exact Host.Outcome.next.inj h ▸ does_self
  · rename_i p hready
    exact (Effect.unlock i p rfl hready).does (Host.Outcome.next.inj h).symm

theorem does_headerReadDone {x : Vector Byte 12} (h : execHeaderReadDone x s = .next t) : Does (.headerReadDone x) s t := by
  by_cases hboot : s.boot = .header
  · have hexec : execHeaderReadDone x s = .next { s with boot := bootAfterHeader x } := exec_headerReadDone hboot
    exact Host.Outcome.next.inj (h.symm.trans hexec) ▸ (Acts.reads x rfl hboot).does
  · unfold execHeaderReadDone at h
    split at h
    · exact Host.Outcome.next.inj h ▸ does_self
    · exact Host.Outcome.next.inj h ▸ does_self
    · exact Host.Outcome.next.inj h ▸ does_self
    · exact absurd ‹_› hboot

theorem does_endOfLoading {body : List Byte} (h : execEndOfLoading body s = .next t) : Does (.endOfLoading body) s t := by
  unfold execEndOfLoading at h
  split at h
  · exact Host.Outcome.next.inj h ▸ does_self
  · exact Host.Outcome.next.inj h ▸ does_self
  · exact Host.Outcome.next.inj h ▸ (Acts.fails _ body _ rfl).does
  · rename_i x hboot
    split at h
    · rename_i hlength
      split at h
      · rename_i hcheck
        exact Host.Outcome.next.inj h ▸ (Acts.loads x body rfl hboot hcheck hlength).does
      · exact Host.Outcome.next.inj h ▸ (Acts.fails x body _ rfl).does
    · exact Host.Outcome.next.inj h ▸ does_self

theorem does_frameStart (h : execFrameStart s = .next t) : Does .frameStart s t := by
  unfold execFrameStart at h
  split at h
  · exact ⟨s, _, .stays, (Host.Outcome.next.inj h).symm, .inr (.inl rfl)⟩
  · exact Host.Outcome.next.inj h ▸ does_self
  · exact Host.Outcome.next.inj h ▸ does_self

end

/-- Every command answers a next state. -/
theorem exec_completes (c : Instr) (s : State) : ∃ t, exec c s = .next t := by
  cases c with
  | commit p =>
    change ∃ t, execCommit p s = .next t
    unfold execCommit
    repeat' split
    all_goals exact ⟨_, rfl⟩
  | kill p =>
    change ∃ t, execKill p s = .next t
    unfold execKill
    repeat' split
    all_goals exact ⟨_, rfl⟩
  | flush p =>
    change ∃ t, execFlush p s = .next t
    unfold execFlush
    split <;> exact ⟨_, rfl⟩
  | drainComplete =>
    change ∃ t, execDrainComplete s = .next t
    unfold execDrainComplete
    repeat' split
    all_goals exact ⟨_, rfl⟩
  | grant =>
    change ∃ t, execGrant s = .next t
    unfold execGrant
    repeat' split
    all_goals exact ⟨_, rfl⟩
  | beatIssue =>
    change ∃ t, execBeatIssue s = .next t
    unfold execBeatIssue
    repeat' split
    all_goals exact ⟨_, rfl⟩
  | targetReady lines =>
    change ∃ t, execTargetReady lines s = .next t
    unfold execTargetReady
    repeat' split
    all_goals exact ⟨_, rfl⟩
  | targetError b =>
    change ∃ t, execTargetError b s = .next t
    unfold execTargetError
    repeat' split
    all_goals exact ⟨_, rfl⟩
  | unlockPerform i =>
    change ∃ t, execUnlockPerform i s = .next t
    unfold execUnlockPerform
    split <;> exact ⟨_, rfl⟩
  | headerReadDone h =>
    change ∃ t, execHeaderReadDone h s = .next t
    unfold execHeaderReadDone
    repeat' split
    all_goals exact ⟨_, rfl⟩
  | endOfLoading body =>
    change ∃ t, execEndOfLoading body s = .next t
    unfold execEndOfLoading
    repeat' split
    all_goals exact ⟨_, rfl⟩
  | frameStart =>
    change ∃ t, execFrameStart s = .next t
    unfold execFrameStart
    split <;> exact ⟨_, rfl⟩
  | unknownCommand code =>
    change ∃ t, execUnknownCommand code s = .next t
    unfold execUnknownCommand
    split <;> exact ⟨_, rfl⟩
  | _ => exact ⟨_, rfl⟩

/-- What a command does is one of the things that it can do. -/
theorem exec_does {c : Instr} {s t : State} (h : exec c s = .next t) : Does c s t := by
  have only {u : State} (hu : Does c s u) (hexec : exec c s = .next u) : Does c s t :=
    Host.Outcome.next.inj (hexec.symm.trans h) ▸ hu
  have request (kind : Kind) (q : Request) (hc : c = requestOf kind q) : Does c s t :=
    only ((Effect.request kind q hc).does rfl) (hc ▸ exec_requestOf kind q s)
  cases c with
  | powerOnReset b => exact only (Acts.powered b rfl).does rfl
  | hostLinkReset => exact only ((Effect.reset rfl).does rfl) rfl
  | read q => exact request .read q rfl
  | write q => exact request .write q rfl
  | lockRead q => exact request .lockRead q rfl
  | lockWrite q => exact request .lockWrite q rfl
  | unlock q => exact request .unlock q rfl
  | commit p => exact does_commit h
  | kill p => exact does_kill h
  | flush p => exact does_flush h
  | verdictTimerExpiry p => exact only (expiry_verdict p).does rfl
  | strandTimerExpiry e => exact only (expiry_strand e).does rfl
  | lockTimerExpiry k => exact only (expiry_lock k).does rfl
  | drainTimerExpiry => exact only expiry_drain.does rfl
  | waitTimerExpiry => exact only expiry_wait.does rfl
  | timebaseTick => exact only (Acts.ticked rfl).does rfl
  | drainComplete => exact does_drainComplete h
  | grant => exact does_grant h
  | beatIssue => exact does_beatIssue h
  | targetReady lines => exact does_targetReady h
  | targetError b => exact does_targetError h
  | strayAnswer b => exact only does_self rfl
  | unlockPerform i => exact does_unlockPerform h
  | getStatus => exact only (does_takeCommand (act := answer statusRecord) rfl .stays) rfl
  | takeEvent => exact only (does_takeCommand rfl (acts_unlessLoading (acts_takeOldest rfl))) rfl
  | setAlertMask m => exact only (does_takeCommand rfl (acts_unlessLoading (.masks m rfl))) rfl
  | clearOverflow => exact only (does_takeCommand rfl (acts_unlessLoading (.clears rfl))) rfl
  | stageRegion record => exact only (does_takeCommand rfl (acts_unlessLoading (acts_stageReply record rfl))) rfl
  | applyRegion index => exact only (does_takeCommand rfl (acts_unlessLoading (acts_applyStaged index rfl))) rfl
  | readRegion index =>
    refine only (does_takeCommand rfl (acts_unlessLoading ?_)) rfl
    split <;> exact .stays
  | setSelect select limit =>
    refine only (does_takeCommand rfl (acts_unlessLoading ?_)) rfl
    split
    · rename_i hgood
      exact .limits select limit rfl hgood.1 hgood.2
    · exact .stays
  | readTag initiator tag =>
    refine only (does_takeCommand rfl (acts_unlessLoading ?_)) rfl
    split <;> exact .stays
  | readCapture entry =>
    refine only (does_takeCommand rfl (acts_unlessLoading ?_)) rfl
    split <;> exact .stays
  | readReservations => exact only (does_takeCommand rfl (acts_unlessLoading .stays)) rfl
  | discardStrands scope region select address =>
    exact only (does_takeCommand rfl (acts_unlessLoading (acts_discardCommand scope region select address rfl))) rfl
  | breakLock i => exact only (does_takeCommand rfl (acts_unlessLoading (acts_breakCommand i rfl))) rfl
  | hold => exact only (does_takeCommand rfl (acts_unlessLoading (.operates .held (.inl rfl)))) rfl
  | release => exact only (does_takeCommand rfl (acts_unlessLoading (.operates .running (.inr rfl)))) rfl
  | unknownCommand code =>
    change execUnknownCommand code s = .next t at h
    unfold execUnknownCommand at h
    split at h
    · exact Host.Outcome.next.inj h ▸ does_self
    · exact Host.Outcome.next.inj h ▸ does_takeCommand rfl .stays
  | frameEnd => exact only ⟨s, .deselected, .stays, rfl, .inr (.inr (.inl rfl))⟩ rfl
  | headerReadDone x => exact does_headerReadDone h
  | endOfLoading body => exact does_endOfLoading h
  | frameStart => exact does_frameStart h

/-- A step idles, or does what a command can do, but for the bytes and commands that wait. -/
theorem step_does {s t : State} (h : step s = .next t) :
    (∃ p d, t = { s with port := p, dataIn := d }) ∨ ∃ c d q, Does c { s with dataIn := d, pending := q } t := by
  obtain ⟨p, d, hstep⟩ | ⟨c, d, q, hstep⟩ := step_cases s
  · exact .inl ⟨p, d, (Host.Outcome.next.inj (hstep.symm.trans h)).symm⟩
  · exact .inr ⟨c, d, q, exec_does (hstep.symm.trans h)⟩

end Sys2Proof.Machine
end

section
/-! SUPPORT. Which fields each own effect of a command can change, and the rest of an event; the event queue and the strand
sequence counter only grow; and the statement about which rows own which settings and counters. -/

namespace Sys2Proof.Machine

/-! ## Which fields an effect can change -/

section
variable (s : State)

theorem refuse_only (kind : Kind) (q : Request) (status : Status) :
    ∃ ts ac rs, refuse kind q status s = { s with tags := ts, acceptance := ac, responses := rs } := by
  unfold refuse
  simp only
  split <;> exact ⟨_, _, _, rfl⟩

theorem take_only (kind : Kind) (q : Request) (pl : Option Place) :
    ∃ ts ac rs, take kind q pl s = { s with tags := ts, acceptance := ac, responses := rs } := by
  unfold take
  simp only
  split <;> exact ⟨_, _, _, rfl⟩

theorem plainLockCheck_only (kind : Kind) (q : Request) (pl : Place) :
    ∃ ts ac rs, plainLockCheck kind q pl s = { s with tags := ts, acceptance := ac, responses := rs } := by
  unfold plainLockCheck
  split
  · exact ⟨_, _, _, rfl⟩
  · exact take_only s kind q (some pl)

theorem lockReadCheck_only (q : Request) (permitted : Bool) (limit : BitVec 10) (pl : Place) : ∃ ts ac rs sl ll,
    lockReadCheck q permitted limit pl s =
      { s with tags := ts, acceptance := ac, responses := rs, slots := sl, lockLost := ll } := by
  unfold lockReadCheck
  have refused : ∃ ts ac rs sl ll, refuse .lockRead q .lockDenied s =
      { s with tags := ts, acceptance := ac, responses := rs, slots := sl, lockLost := ll } := by
    obtain ⟨ts, ac, rs, h⟩ := refuse_only s .lockRead q .lockDenied
    exact ⟨ts, ac, rs, _, _, h⟩
  split
  · exact refused
  · split
    · exact refused
    · split
      · exact ⟨_, _, _, _, _, rfl⟩
      · split
        · exact ⟨_, _, _, _, _, rfl⟩
        · exact ⟨_, _, _, _, _, rfl⟩

theorem lockWriteCheck_only (q : Request) (pl : Place) : ∃ ts ac rs sl ll, lockWriteCheck q pl s =
    { s with tags := ts, acceptance := ac, responses := rs, slots := sl, lockLost := ll } := by
  have refused (status : Status) (u : State) : ∃ ts ac rs, refuse .lockWrite q status u =
      { u with tags := ts, acceptance := ac, responses := rs } := refuse_only u _ _ _
  unfold lockWriteCheck
  split
  · obtain ⟨ts, ac, rs, h⟩ := refused .lockLost (s.setLockLost q.initiator false)
    exact ⟨ts, ac, rs, _, _, h⟩
  · split
    · obtain ⟨ts, ac, rs, h⟩ := refused .lockDenied s
      exact ⟨ts, ac, rs, _, _, h⟩
    · split
      · exact ⟨_, _, _, _, _, rfl⟩
      · obtain ⟨ts, ac, rs, h⟩ := refused .lockDenied s
        exact ⟨ts, ac, rs, _, _, h⟩

/-- What the acceptance of a request can change. -/
abbrev AcceptChanges (s t : State) : Prop := ∃ ts ac rs sl ll q o, t =
  { s with tags := ts, acceptance := ac, responses := rs, slots := sl, lockLost := ll, events := q, overflow := o }

theorem addressed_only (kind : Kind) (q : Request) : AcceptChanges s (addressed kind q s) := by
  have plain {u : State} (h : ∃ ts ac rs, u = { s with tags := ts, acceptance := ac, responses := rs }) :
      AcceptChanges s u := by
    obtain ⟨_, _, _, rfl⟩ := h
    exact ⟨_, _, _, _, _, _, _, rfl⟩
  have locks {u : State}
      (h : ∃ ts ac rs sl ll, u = { s with tags := ts, acceptance := ac, responses := rs, slots := sl, lockLost := ll }) :
      AcceptChanges s u := by
    obtain ⟨_, _, _, _, _, rfl⟩ := h
    exact ⟨_, _, _, _, _, _, _, rfl⟩
  unfold addressed
  split
  · obtain ⟨ts, ac, rs, h⟩ := refuse_only s kind q .unmapped
    rw [h]
    exact ⟨_, _, _, _, _, _, _, rfl⟩
  · simp only
    split
    · exact plain (refuse_only s _ _ _)
    · split
      · exact plain (refuse_only s _ _ _)
      · split
        · exact ⟨_, _, _, _, _, _, _, rfl⟩
        · split
          · exact plain (plainLockCheck_only s _ _ _)
          · exact plain (plainLockCheck_only s _ _ _)
          · exact locks (lockReadCheck_only s _ _ _ _)
          · exact locks (lockWriteCheck_only s _ _)
          · exact plain (take_only s _ _ _)

theorem accept_only (kind : Kind) (q : Request) : AcceptChanges s (accept kind q s) := by
  unfold accept
  split
  · exact ⟨_, _, _, _, _, _, _, rfl⟩
  · split
    · exact ⟨_, _, _, _, _, _, _, rfl⟩
    · split
      · obtain ⟨ts, ac, rs, h⟩ := refuse_only s kind q .badRequest
        rw [h]
        exact ⟨_, _, _, _, _, _, _, rfl⟩
      · split
        · obtain ⟨ts, ac, rs, h⟩ := take_only s .unlock q none
          rw [h]
          exact ⟨_, _, _, _, _, _, _, rfl⟩
        all_goals exact addressed_only s _ q

theorem refuseMismatch_only (p : Pair) (r : TagRecord) (pl : Place) (against : List Numbered) : ∃ ts es sl rs q o,
    refuseMismatch p r pl against s =
      { s with tags := ts, entries := es, slots := sl, responses := rs, events := q, overflow := o } := by
  obtain ⟨ts, es, sl, h⟩ := releaseIfFinished_only p
    ((s.setTag p (some { r with position := .done, response := .sent })).respond (.error p .mismatch))
  rw [refuseMismatch, h]
  exact ⟨_, _, _, _, _, _, rfl⟩

theorem servedWholly_only (p : Pair) (r : TagRecord) (beats : List Word) : ∃ ts es sl rs,
    servedWholly p r beats s = { s with tags := ts, entries := es, slots := sl, responses := rs } := by
  obtain ⟨ts, es, sl, h⟩ := releaseIfFinished_only p
    ((s.setTag p (some { r with position := .done, response := .sent })).respond
      (.data p (dataStatus r) beats.length beats))
  rw [servedWholly, h]
  exact ⟨_, _, _, _, rfl⟩

/-- What the work of a grant can change. -/
abbrev GrantChanges (s t : State) : Prop := ∃ ts es al sl ac st rs q o, t =
  { s with tags := ts, entries := es, allocations := al, slots := sl, access := ac, strobes := st, responses := rs
           events := q, overflow := o }

theorem grantGuarded_only (p : Pair) (r : TagRecord) (pl : Place) : GrantChanges s (grantGuarded p r pl s) := by
  obtain ⟨es, hconsumed⟩ := consumeAll_only s (s.consumption pl r.size r.count)
  rw [consumeAll] at hconsumed
  unfold grantGuarded
  simp only [hconsumed]
  split
  · obtain ⟨_, _, _, _, _, _, h⟩ := refuseMismatch_only s p r pl (s.conflicts pl r.size r.count)
    rw [h]
    exact ⟨_, _, _, _, _, _, _, _, _, rfl⟩
  · split
    · obtain ⟨_, _, _, _, h⟩ := servedWholly_only { s with entries := es } p r
        (takenBeats (s.consumption pl r.size r.count))
      rw [h]
      exact ⟨_, _, _, _, _, _, _, _, _, rfl⟩
    · split
      · exact ⟨_, _, _, _, _, _, _, _, _, rfl⟩
      · rename_i e _
        split
        · obtain ⟨_, _, _, _, h⟩ := servedWholly_only (giveEntry e (allocated { r with entry := some e } pl
            (takenBeats (s.consumption pl r.size r.count)) (.captured p) { s with entries := es }) { s with entries := es })
            p { r with entry := some e } (takenBeats (s.consumption pl r.size r.count))
          rw [h]
          exact ⟨_, _, _, _, _, _, _, _, _, rfl⟩
        · exact ⟨_, _, _, _, _, _, _, _, _, rfl⟩

theorem grantRecord_only (p : Pair) (r : TagRecord) (pl : Place) :
    ∃ u, GrantChanges { s with pointer := p.initiator + 1 } u ∧ grantRecord p r pl s = u := by
  refine ⟨_, ?_, rfl⟩
  unfold grantRecord
  simp only
  split
  · obtain ⟨_, _, _, _, _, _, _, _, _, h⟩ := grantGuarded_only (s.granted p r) p { r with position := .issued } pl
    exact ⟨_, _, _, _, _, _, _, _, _, h⟩
  · exact ⟨_, _, _, _, _, _, _, _, _, rfl⟩

/-- What the end of a beat can change. -/
abbrev BeatChanges (s t : State) : Prop := ∃ ts es n ac sl rs q o, t =
  { s with tags := ts, entries := es, strandCounter := n, access := ac, slots := sl, responses := rs, events := q
           overflow := o }

theorem beatReady_only (a : Access) (b : Nat) (lines : Word) : BeatChanges s (beatReady a b lines s) := by
  have access {u : State} {ac : Option Access}
      (h : ∃ ts es sl rs, u = { s.setAccess ac with tags := ts, entries := es, slots := sl, responses := rs }) :
      BeatChanges s u := by
    obtain ⟨_, _, _, _, rfl⟩ := h
    exact ⟨_, _, _, _, _, _, _, _, rfl⟩
  unfold beatReady
  simp only
  split
  · unfold writtenBeat
    split
    · exact access (endWrite_only a .ok (s.setAccess none))
    · exact ⟨_, _, _, _, _, _, _, _, rfl⟩
  · split
    · unfold readBeat
      split
      · rename_i e _
        split
        · obtain ⟨es, happend⟩ := appendBeat_only e (fromLines a.size (beatAddress a.place a.size b) lines) (s.setAccess none)
          obtain ⟨_, _, _, _, h⟩ := endRead_only a none
            (appendBeat e (fromLines a.size (beatAddress a.place a.size b) lines) (s.setAccess none))
          rw [h, happend]
          exact ⟨_, _, _, _, _, _, _, _, rfl⟩
        · obtain ⟨es, happend⟩ := appendBeat_only e (fromLines a.size (beatAddress a.place a.size b) lines)
            (s.setAccess (some { a with flight := none }))
          rw [happend]
          exact ⟨_, _, _, _, _, _, _, _, rfl⟩
      · split
        · exact access (endRead_only _ none (s.setAccess none))
        · exact ⟨_, _, _, _, _, _, _, _, rfl⟩
    · obtain ⟨es, n, h⟩ := endRemoved_only a (some (fromLines a.size (beatAddress a.place a.size b) lines)) (s.setAccess none)
      rw [h]
      exact ⟨_, _, _, _, _, _, _, _, rfl⟩

theorem beatFails_changes (a : Access) (b : Nat) (timeout : Bool) : BeatChanges s (beatFails a b timeout s) := by
  unfold beatFails
  simp only
  split
  · obtain ⟨_, _, _, _, h⟩ := endWrite_only a (failureStatus timeout) (s.setAccess none)
    rw [h]
    exact ⟨_, _, _, _, _, _, _, _, rfl⟩
  · split
    · obtain ⟨_, _, _, _, h⟩ := endRead_only a (some (failureStatus timeout)) (s.setAccess none)
      rw [h]
      exact ⟨_, _, _, _, _, _, _, _, rfl⟩
    · obtain ⟨_, _, h⟩ := endRemoved_only a none (s.setAccess none)
      rw [h]
      exact ⟨_, _, _, _, _, _, _, _, rfl⟩

/-- A host-link reset once the CAPTURED entries are strands and the records are removed (R39, R84). -/
def State.resetDropped (s : State) : State :=
  (resetRemoves s).foldl (fun t p => endAccessOf p (t.setTag p none)) (strandAll (s.capturedBy fun _ => true) s)

/-- Every record's response set to SENT (R39). -/
def markAll (s : State) : State := allPairs.foldl (fun t p => markSent p t) s

theorem resetTables_eq : resetTables s = resetLocks (markAll s.resetDropped) := rfl

theorem markAll_only : ∃ ts, markAll s = { s with tags := ts } :=
  foldl_only (fun t b => { t with tags := b }) (fun t p => markSent p t) (fun t => ⟨t.tags, rfl⟩) (fun _ _ _ => rfl)
    (fun t p => by
      unfold markSent
      split <;> exact ⟨_, rfl⟩) allPairs s

theorem resetDropped_only : ∃ ts es n ac, s.resetDropped =
    { s with tags := ts, entries := es, strandCounter := n, access := ac } := by
  obtain ⟨es, n, hstrand⟩ := strandAll_only (s.capturedBy fun _ => true) s
  obtain ⟨b, hb⟩ := foldl_only
    (β := Vector (Vector (Option TagRecord) 16) 8 × Vector (Option CaptureEntry) 32 × Nat × Option Access)
    (fun t b => { t with tags := b.1, entries := b.2.1, strandCounter := b.2.2.1, access := b.2.2.2 })
    (fun t p => endAccessOf p (t.setTag p none))
    (fun t => ⟨(t.tags, t.entries, t.strandCounter, t.access), rfl⟩) (fun _ _ _ => rfl)
    (fun t p => by
      obtain ⟨a, es, n, h⟩ := endAccessOf_only p (t.setTag p none)
      exact ⟨(_, es, n, a), by rw [h]; rfl⟩)
    (resetRemoves s) (strandAll (s.capturedBy fun _ => true) s)
  exact ⟨_, _, _, _, by rw [State.resetDropped, hb, hstrand]⟩

theorem resetTables_only : ∃ ts es n ac sl ll, resetTables s =
    { s with tags := ts, entries := es, strandCounter := n, access := ac, slots := sl, lockLost := ll } := by
  obtain ⟨ts, es, n, ac, hdropped⟩ := resetDropped_only s
  obtain ⟨ts', hmarked⟩ := markAll_only s.resetDropped
  refine ⟨ts', es, n, ac, (resetLocks (markAll s.resetDropped)).slots, Vector.replicate 8 false, ?_⟩
  rw [resetTables_eq, hmarked, hdropped]
  rfl

/-- What an own effect can change: the tables, the counters of records, grants and strands, the queue and what is sent. -/
abbrev OwnChanges (s t : State) : Prop := ∃ ts ac es n al sl ll pt a q o rs st ap g, t =
  { s with tags := ts, acceptance := ac, entries := es, strandCounter := n, allocations := al, slots := sl, lockLost := ll
           pointer := pt, access := a, events := q, overflow := o, responses := rs, strobes := st, apply := ap, regions := g }

variable {s} in
/-- An own effect changes no setting, and not the latch. -/
theorem Effect.changes {c : Instr} {u : State} (h : Effect c s u) : OwnChanges s u := by
  cases h with
  | reset =>
    obtain ⟨_, _, _, _, _, _, h⟩ := resetTables_only s
    rw [h]
    exact ⟨_, _, _, _, _, _, _, _, _, _, _, _, _, _, _, rfl⟩
  | request kind q =>
    obtain ⟨_, _, _, _, _, _, _, h⟩ := accept_only s kind q
    exact ⟨_, _, _, _, _, _, _, _, _, _, _, _, _, _, _, h⟩
  | commit p r =>
    obtain ⟨_, _, _, h⟩ := releaseIfFinished_only p (s.setTag p (some r.madeCommitted))
    exact ⟨_, _, _, _, _, _, _, _, _, _, _, _, _, _, _, h⟩
  | kill p =>
    obtain ⟨_, _, _, _, _, _, h⟩ := removeRecords_only [p] s
    exact ⟨_, _, _, _, _, _, _, _, _, _, _, _, _, _, _, h⟩
  | flush p r =>
    obtain ⟨_, _, _, _, _, _, h⟩ := removeRecords_only (flushed p.initiator r.order s) s
    exact ⟨_, _, _, _, _, _, _, _, _, _, _, _, _, _, _, h⟩
  | verdictExpiry p r =>
    obtain ⟨_, habandon⟩ := abandon_only p r s
    obtain ⟨_, _, _, _, _, _, h⟩ := removeRecords_only [p] (abandon p r s)
    rw [h, habandon]
    exact ⟨_, _, _, _, _, _, _, _, _, _, _, _, _, _, _, rfl⟩
  | strandExpiry => exact ⟨_, _, _, _, _, _, _, _, _, _, _, _, _, _, _, rfl⟩
  | lockBroken k v n cause =>
    obtain ⟨_, _, _, _, _, h⟩ := breakReservation_only k v cause s
    exact ⟨_, _, _, _, _, _, _, _, _, _, _, _, _, _, _, h⟩
  | ready a f lines =>
    obtain ⟨_, _, _, _, _, _, _, _, h⟩ := beatReady_only s a f.beat lines
    exact ⟨_, _, _, _, _, _, _, _, _, _, _, _, _, _, _, h⟩
  | failure a f timeout =>
    obtain ⟨_, _, _, _, _, _, _, _, h⟩ := beatFails_changes s a f.beat timeout
    exact ⟨_, _, _, _, _, _, _, _, _, _, _, _, _, _, _, h⟩
  | drained =>
    obtain ⟨_, _, _, _, _, h⟩ := completeDrain_only s
    exact ⟨_, _, _, _, _, _, _, _, _, _, _, _, _, _, _, h⟩
  | grant p r pl =>
    obtain ⟨_, ⟨_, _, _, _, _, _, _, _, _, rfl⟩, h⟩ := grantRecord_only s p r pl
    exact ⟨_, _, _, _, _, _, _, _, _, _, _, _, _, _, _, h⟩
  | unlock i p =>
    obtain ⟨_, _, _, _, _, h⟩ := performUnlock_only p s
    exact ⟨_, _, _, _, _, _, _, _, _, _, _, _, _, _, _, h⟩
  | change index r =>
    obtain ⟨_, _, _, _, h⟩ := makeChange_only r s
    exact ⟨_, _, _, _, _, _, _, _, _, _, _, _, _, _, _, h⟩
  | discard scope region select address =>
    obtain ⟨_, _, _, h⟩ := discard_only (s.strandsInScope scope region select address)
      (scopeEvent scope region select address) s
    exact ⟨_, _, _, _, _, _, _, _, _, _, _, _, _, _, _, h⟩

end

/-! ## What is kept by each application is kept by a fold -/

/-- A preorder between states that each application respects relates the two ends of a fold. -/
theorem foldl_related {α : Type} {R : State → State → Prop} (hrefl : ∀ s, R s s)
    (htrans : ∀ {s t u}, R s t → R t u → R s u) {f : State → α → State} (hf : ∀ s a, R s (f s a)) (l : List α) (s : State) :
    R s (l.foldl f s) := by
  induction l generalizing s with
  | nil => exact hrefl s
  | cons a l ih => exact htrans (hf s a) (ih (f s a))

/-! ## The strand sequence counter only grows (R91) -/

section
variable (s : State)

theorem strandCounter_strandEntry_le (e : EntryIx) : s.strandCounter ≤ (strandEntry e s).strandCounter := by
  unfold strandEntry
  split
  · exact le_rfl
  · exact Nat.le_succ _

theorem strandCounter_strandAll_le (es : List Numbered) : s.strandCounter ≤ (strandAll es s).strandCounter :=
  foldl_related (R := fun s t => s.strandCounter ≤ t.strandCounter) (fun _ => le_rfl) le_trans
    (fun s (x : Numbered) => strandCounter_strandEntry_le s x.1) (sortBy CaptureEntry.allocation es) s

theorem strandCounter_endUnbound_le (e : EntryIx) : s.strandCounter ≤ (endUnbound e s).strandCounter := by
  unfold endUnbound
  split
  · exact le_rfl
  · split
    · exact le_rfl
    · exact strandCounter_strandEntry_le s e

theorem strandCounter_endAccessOf_le (p : Pair) : s.strandCounter ≤ (endAccessOf p s).strandCounter := by
  unfold endAccessOf
  split
  · exact le_rfl
  · split
    · split
      · split
        · obtain ⟨es, h⟩ := unbindEntry_only ‹EntryIx› (s.setAccess (some { ‹Access› with live := false }))
          rw [h]
          exact le_rfl
        · exact le_rfl
      · split
        · exact strandCounter_endUnbound_le (s.setAccess none) _
        · exact le_rfl
    · exact le_rfl

theorem strandCounter_dropRecord_le (p : Pair) : s.strandCounter ≤ (dropRecord p s).strandCounter := by
  unfold dropRecord
  split
  · exact le_rfl
  · obtain ⟨_, _, _, _, h⟩ := lockTableRemoval_only p ‹_› (endAccessOf p (s.setTag p none))
    rw [h]
    exact strandCounter_endAccessOf_le (s.setTag p none) p

theorem strandCounter_removeRecords_le (ps : List Pair) : s.strandCounter ≤ (removeRecords ps s).strandCounter :=
  (strandCounter_strandAll_le s _).trans
    (foldl_related (R := fun s t => s.strandCounter ≤ t.strandCounter) (fun _ => le_rfl) le_trans
      strandCounter_dropRecord_le _ _)

theorem strandCounter_resetTables_le : s.strandCounter ≤ (resetTables s).strandCounter := by
  obtain ⟨_, hmarked⟩ := markAll_only s.resetDropped
  have marked : (resetTables s).strandCounter = s.resetDropped.strandCounter := by
    rw [resetTables_eq, hmarked]
    rfl
  rw [marked]
  exact (strandCounter_strandAll_le s _).trans
    (foldl_related (R := fun s t => s.strandCounter ≤ t.strandCounter) (fun _ => le_rfl) le_trans
      (fun t p => strandCounter_endAccessOf_le (t.setTag p none) p) _ _)

theorem strandCounter_endRemoved_le (a : Access) (v : Option Word) : s.strandCounter ≤ (endRemoved a v s).strandCounter := by
  unfold endRemoved
  split
  · exact le_rfl
  · split
    · rename_i e _ _ x
      obtain ⟨es, h⟩ := appendBeat_only e x s
      refine le_trans ?_ (strandCounter_endUnbound_le (appendBeat e x s) e)
      rw [h]
    · exact strandCounter_endUnbound_le s _

theorem strandCounter_endWrite (a : Access) (status : Status) : (endWrite a status s).strandCounter = s.strandCounter := by
  obtain ⟨_, _, _, _, h⟩ := endWrite_only a status s
  rw [h]

theorem strandCounter_endRead (a : Access) (failure : Option Status) :
    (endRead a failure s).strandCounter = s.strandCounter := by
  obtain ⟨_, _, _, _, h⟩ := endRead_only a failure s
  rw [h]

theorem strandCounter_appendBeat (e : EntryIx) (v : Word) : (appendBeat e v s).strandCounter = s.strandCounter := by
  obtain ⟨_, h⟩ := appendBeat_only e v s
  rw [h]

theorem strandCounter_beatReady_le (a : Access) (b : Nat) (lines : Word) :
    s.strandCounter ≤ (beatReady a b lines s).strandCounter := by
  unfold beatReady
  simp only
  split
  · unfold writtenBeat
    split
    · exact (strandCounter_endWrite (s.setAccess none) a .ok).ge
    · exact le_rfl
  · split
    · unfold readBeat
      split
      · split
        · rw [strandCounter_endRead, strandCounter_appendBeat]
          exact le_rfl
        · rw [strandCounter_appendBeat]
          exact le_rfl
      · split
        · exact (strandCounter_endRead (s.setAccess none) _ none).ge
        · exact le_rfl
    · exact strandCounter_endRemoved_le (s.setAccess none) a _

theorem strandCounter_beatFails_le (a : Access) (b : Nat) (timeout : Bool) :
    s.strandCounter ≤ (beatFails a b timeout s).strandCounter := by
  unfold beatFails
  simp only
  split
  · exact (strandCounter_endWrite (s.setAccess none) a _).ge
  · split
    · exact (strandCounter_endRead (s.setAccess none) a _).ge
    · exact strandCounter_endRemoved_le (s.setAccess none) a none

theorem strandCounter_settle (u : State) : (settle s u).strandCounter = u.strandCounter := by
  obtain ⟨_, _, _, _, _, _, _, _, _, _, h⟩ := settle_only s u
  rw [h]

end

/-! ## The rows that own a setting or a counter -/

/-- The command removes records, ends a beat or counts a tick, so that entries may become strands. -/
abbrev MayStrand (c : Instr) : Prop := (∃ p, c = .kill p ∨ c = .flush p ∨ c = .verdictTimerExpiry p) ∨
  c = .hostLinkReset ∨ (∃ w, c = .targetReady w) ∨ (∃ b, c = .targetError b) ∨ c = .waitTimerExpiry ∨ c = .timebaseTick

/-- The settings of `t` are those of `s`. -/
structure SameSettings (s t : State) : Prop where
  operating : t.operating = s.operating
  image : t.image = s.image
  divider : t.divider = s.divider
  drainLimit : t.drainLimit = s.drainLimit
  boot : t.boot = s.boot
  waitLimits : t.waitLimits = s.waitLimits
  timebase : t.timebase = s.timebase
  alertMask : t.alertMask = s.alertMask
  staging : t.staging = s.staging
  pending : t.pending = s.pending
  dataIn : t.dataIn = s.dataIn
  port : t.port = s.port

/-- The counters of `t` are those of `s`, but where the command owns them. -/
structure CountersBy (c : Instr) (s t : State) : Prop where
  granted : t.pointer ≠ s.pointer ∨ t.allocations ≠ s.allocations → c = .grant
  accepted : t.acceptance ≠ s.acceptance → ∃ kind q, c = requestOf kind q
  grows : s.strandCounter ≤ t.strandCounter
  stranded : t.strandCounter ≠ s.strandCounter → MayStrand c

section
variable {c : Instr} {s t : State}

/-- A command that may strand, and leaves the counters of grants and requests. -/
theorem CountersBy.of_mayStrand (hc : MayStrand c) (hpointer : t.pointer = s.pointer)
    (hallocations : t.allocations = s.allocations)
    (hacceptance : t.acceptance = s.acceptance) (hgrows : s.strandCounter ≤ t.strandCounter) : CountersBy c s t :=
  ⟨fun h => (h.elim (absurd hpointer) (absurd hallocations)), fun h => absurd hacceptance h, hgrows, fun _ => hc⟩

/-- Counters that are all as they were. -/
theorem CountersBy.of_same (hpointer : t.pointer = s.pointer) (hallocations : t.allocations = s.allocations)
    (hacceptance : t.acceptance = s.acceptance) (hstrand : t.strandCounter = s.strandCounter) : CountersBy c s t :=
  ⟨fun h => (h.elim (absurd hpointer) (absurd hallocations)), fun h => absurd hacceptance h, hstrand.ge,
    fun h => absurd hstrand h⟩

theorem Effect.sameSettings (h : Effect c s t) : SameSettings s t := by
  obtain ⟨_, _, _, _, _, _, _, _, _, _, _, _, _, _, _, rfl⟩ := h.changes
  exact ⟨rfl, rfl, rfl, rfl, rfl, rfl, rfl, rfl, rfl, rfl, rfl, rfl⟩

theorem sameSettings_settle (s u : State) : SameSettings u (settle s u) := by
  obtain ⟨_, _, _, _, _, _, _, _, _, _, h⟩ := settle_only s u
  rw [h]
  exact ⟨rfl, rfl, rfl, rfl, rfl, rfl, rfl, rfl, rfl, rfl, rfl, rfl⟩

theorem SameSettings.trans {u : State} (h : SameSettings s t) (k : SameSettings t u) : SameSettings s u :=
  ⟨k.operating.trans h.operating, k.image.trans h.image, k.divider.trans h.divider, k.drainLimit.trans h.drainLimit,
    k.boot.trans h.boot, k.waitLimits.trans h.waitLimits, k.timebase.trans h.timebase, k.alertMask.trans h.alertMask,
    k.staging.trans h.staging, k.pending.trans h.pending, k.dataIn.trans h.dataIn, k.port.trans h.port⟩

theorem Effect.counters (h : Effect c s t) : CountersBy c s t := by
  have removal {ps : List Pair} {u : State} (hu : u = removeRecords ps s) (hc : MayStrand c) : CountersBy c s u := by
    have grows := strandCounter_removeRecords_le s ps
    obtain ⟨_, _, _, _, _, _, h⟩ := removeRecords_only ps s
    rw [hu]
    rw [h] at grows ⊢
    exact .of_mayStrand hc rfl rfl rfl grows
  cases h with
  | reset hc =>
    have grows := strandCounter_resetTables_le s
    obtain ⟨_, _, _, _, _, _, h⟩ := resetTables_only s
    rw [h] at grows ⊢
    exact .of_mayStrand (.inr (.inl hc)) rfl rfl rfl grows
  | request kind q hc =>
    obtain ⟨_, _, _, _, _, _, _, h⟩ := accept_only s kind q
    rw [h]
    exact ⟨fun h => (h.elim (absurd rfl) (absurd rfl)), fun _ => ⟨kind, q, hc⟩, le_rfl, absurd rfl⟩
  | commit p r =>
    obtain ⟨_, _, _, h⟩ := releaseIfFinished_only p (s.setTag p (some r.madeCommitted))
    rw [h]
    exact .of_same rfl rfl rfl rfl
  | kill p r hc => exact removal rfl (.inl ⟨p, .inl hc⟩)
  | flush p r hc => exact removal rfl (.inl ⟨p, .inr (.inl hc)⟩)
  | verdictExpiry p r hc =>
    obtain ⟨_, habandon⟩ := abandon_only p r s
    have grows := strandCounter_removeRecords_le (abandon p r s) [p]
    obtain ⟨_, _, _, _, _, _, h⟩ := removeRecords_only [p] (abandon p r s)
    rw [h, habandon] at grows
    rw [h, habandon]
    exact .of_mayStrand (.inl ⟨p, .inr (.inr hc)⟩) rfl rfl rfl grows
  | strandExpiry => exact .of_same rfl rfl rfl rfl
  | lockBroken k v n cause =>
    obtain ⟨_, _, _, _, _, h⟩ := breakReservation_only k v cause s
    rw [h]
    exact .of_same rfl rfl rfl rfl
  | ready a f lines hc =>
    have grows := strandCounter_beatReady_le s a f.beat lines
    obtain ⟨_, _, _, _, _, _, _, _, h⟩ := beatReady_only s a f.beat lines
    rw [h] at grows ⊢
    exact .of_mayStrand (.inr (.inr (.inl ⟨lines, hc⟩))) rfl rfl rfl grows
  | failure a f timeout hc =>
    have grows := strandCounter_beatFails_le s a f.beat timeout
    obtain ⟨_, _, _, _, _, _, _, _, h⟩ := beatFails_changes s a f.beat timeout
    rw [h] at grows ⊢
    exact .of_mayStrand (.inr (.inr (.inr (hc.imp_right .inl)))) rfl rfl rfl grows
  | drained =>
    obtain ⟨_, _, _, _, _, h⟩ := completeDrain_only s
    rw [h]
    exact .of_same rfl rfl rfl rfl
  | grant p r pl hc =>
    obtain ⟨_, ⟨_, _, _, _, _, _, _, _, _, rfl⟩, h⟩ := grantRecord_only s p r pl
    rw [h]
    exact ⟨fun _ => hc, absurd rfl, le_rfl, absurd rfl⟩
  | unlock i p =>
    obtain ⟨_, _, _, _, _, h⟩ := performUnlock_only p s
    rw [h]
    exact .of_same rfl rfl rfl rfl
  | change index r =>
    obtain ⟨_, _, _, _, h⟩ := makeChange_only r s
    rw [h]
    exact .of_same rfl rfl rfl rfl
  | discard scope region select address =>
    obtain ⟨_, _, _, h⟩ := discard_only (s.strandsInScope scope region select address)
      (scopeEvent scope region select address) s
    rw [h]
    exact .of_same rfl rfl rfl rfl

/-- The rest of an event moves no counter. -/
theorem CountersBy.settle {u : State} (h : CountersBy c s u) : CountersBy c s (settle s u) := by
  obtain ⟨_, _, _, _, _, _, _, _, _, _, hsettle⟩ := settle_only s u
  rw [hsettle]
  exact ⟨h.granted, h.accepted, h.grows, h.stranded⟩

/-- An expiry only raises the strand sequence counter. -/
theorem Expiry.strandCounter_le {T : Timer} (h : Expiry T s t) : s.strandCounter ≤ t.strandCounter := by
  cases h with
  | stays => exact le_rfl
  | settles u h => exact h.counters.settle.grows
  | drain => exact le_rfl

theorem strandCounter_expireAll_le (Ts : List Timer) (s : State) : s.strandCounter ≤ (expireAll Ts s).strandCounter := by
  rw [expireAll_eq_foldl]
  exact foldl_related (R := fun s t => s.strandCounter ≤ t.strandCounter) (fun _ => le_rfl) le_trans
    (fun _ T => (expiry_expire T).strandCounter_le) Ts s

/-- The settings and counters of `t` are those of `s`, but where the command owns them (R9, R10, R33, R91, R92, R147, R158, R176,
R179, R185 to R187). -/
structure OwnedBy (c : Instr) (s t : State) : Prop where
  operating : t.operating ≠ s.operating → c = .hold ∨ c = .release ∨ ∃ body, c = .endOfLoading body
  image : t.image ≠ s.image ∨ t.divider ≠ s.divider ∨ t.drainLimit ≠ s.drainLimit → ∃ body, c = .endOfLoading body
  boot : t.boot ≠ s.boot → (∃ h, c = .headerReadDone h) ∨ ∃ body, c = .endOfLoading body
  waitLimits : t.waitLimits ≠ s.waitLimits → (∃ k l, c = .setSelect k l) ∨ ∃ body, c = .endOfLoading body
  timebase : t.timebase ≠ s.timebase → c = .timebaseTick
  alertMask : t.alertMask ≠ s.alertMask → ∃ m, c = .setAlertMask m
  staging : t.staging ≠ s.staging → ∃ record, c = .stageRegion record
  counters : CountersBy c s t

theorem OwnedBy.of_sameSettings (h : SameSettings s t) (hcounters : CountersBy c s t) : OwnedBy c s t :=
  ⟨absurd h.operating, fun hd => hd.elim (absurd h.image) (·.elim (absurd h.divider) (absurd h.drainLimit)),
    absurd h.boot, absurd h.waitLimits, absurd h.timebase, absurd h.alertMask, absurd h.staging, hcounters⟩

theorem CountersBy.refl : CountersBy c s s := .of_same rfl rfl rfl rfl

theorem loadFailed_counters (h : Vector Byte 12) (f : ImageFailure) (s : State) : CountersBy c s (loadFailed h f s) := by
  cases f <;> exact .of_same rfl rfl rfl rfl

theorem loadFailed_owned {body : List Byte} (h : Vector Byte 12) (f : ImageFailure) (s : State) :
    OwnedBy (.endOfLoading body) s (loadFailed h f s) := by
  refine ⟨fun _ => .inr (.inr ⟨body, rfl⟩), fun _ => ⟨body, rfl⟩, fun _ => .inr ⟨body, rfl⟩, fun _ => .inr ⟨body, rfl⟩,
    ?_, ?_, ?_, loadFailed_counters h f s⟩ <;> cases f <;> exact absurd rfl

/-- A tick moves the timebase counter, and may move the strand sequence counter. -/
theorem tick_owned (s : State) : OwnedBy .timebaseTick s (expireAll allTimers (countTick s)) := by
  have grows := strandCounter_expireAll_le allTimers (countTick s)
  obtain ⟨_, _, _, _, _, _, _, _, _, _, _, _, h⟩ := expireAll_only allTimers (countTick s)
  rw [h] at grows ⊢
  exact ⟨absurd rfl, fun hd => hd.elim (absurd rfl) (·.elim (absurd rfl) (absurd rfl)), absurd rfl, absurd rfl, fun _ => rfl,
    absurd rfl, absurd rfl, .of_mayStrand (.inr (.inr (.inr (.inr (.inr rfl))))) rfl rfl rfl grows⟩

/-- What a command does changes the settings and counters that it owns. -/
theorem Acts.owned (h : Acts c s t) (hpower : ∀ b, c ≠ .powerOnReset b) : OwnedBy c s t := by
  have same {u : State} (hsame : SameSettings s u) (hcounters : CountersBy c s u) : OwnedBy c s u :=
    .of_sameSettings hsame hcounters
  cases h with
  | powered b hc => exact absurd hc (hpower b)
  | ticked hc => exact hc ▸ tick_owned s
  | settles u hu => exact same (hu.sameSettings.trans (sameSettings_settle s u)) hu.counters.settle
  | stays => exact same ⟨rfl, rfl, rfl, rfl, rfl, rfl, rfl, rfl, rfl, rfl, rfl, rfl⟩ .refl
  | raises => exact same ⟨rfl, rfl, rfl, rfl, rfl, rfl, rfl, rfl, rfl, rfl, rfl, rfl⟩ (.of_same rfl rfl rfl rfl)
  | drainExpiry => exact same ⟨rfl, rfl, rfl, rfl, rfl, rfl, rfl, rfl, rfl, rfl, rfl, rfl⟩ (.of_same rfl rfl rfl rfl)
  | issues => exact same ⟨rfl, rfl, rfl, rfl, rfl, rfl, rfl, rfl, rfl, rfl, rfl, rfl⟩ (.of_same rfl rfl rfl rfl)
  | takes => exact same ⟨rfl, rfl, rfl, rfl, rfl, rfl, rfl, rfl, rfl, rfl, rfl, rfl⟩ (.of_same rfl rfl rfl rfl)
  | clears => exact same ⟨rfl, rfl, rfl, rfl, rfl, rfl, rfl, rfl, rfl, rfl, rfl, rfl⟩ (.of_same rfl rfl rfl rfl)
  | drains => exact same ⟨rfl, rfl, rfl, rfl, rfl, rfl, rfl, rfl, rfl, rfl, rfl, rfl⟩ (.of_same rfl rfl rfl rfl)
  | masks m hc =>
    exact ⟨absurd rfl, fun hd => hd.elim (absurd rfl) (·.elim (absurd rfl) (absurd rfl)), absurd rfl, absurd rfl,
      absurd rfl, fun _ => ⟨m, hc⟩, absurd rfl, .of_same rfl rfl rfl rfl⟩
  | stages record hc =>
    exact ⟨absurd rfl, fun hd => hd.elim (absurd rfl) (·.elim (absurd rfl) (absurd rfl)), absurd rfl, absurd rfl,
      absurd rfl, absurd rfl, fun _ => ⟨record, hc⟩, .of_same rfl rfl rfl rfl⟩
  | limits select limit hc =>
    exact ⟨absurd rfl, fun hd => hd.elim (absurd rfl) (·.elim (absurd rfl) (absurd rfl)), absurd rfl,
      fun _ => .inl ⟨select, limit, hc⟩, absurd rfl, absurd rfl, absurd rfl, .of_same rfl rfl rfl rfl⟩
  | operates o hc =>
    exact ⟨fun _ => hc.imp_right .inl, fun hd => hd.elim (absurd rfl) (·.elim (absurd rfl) (absurd rfl)), absurd rfl,
      absurd rfl, absurd rfl, absurd rfl, absurd rfl, .of_same rfl rfl rfl rfl⟩
  | reads h hc =>
    exact ⟨absurd rfl, fun hd => hd.elim (absurd rfl) (·.elim (absurd rfl) (absurd rfl)), fun _ => .inl ⟨h, hc⟩,
      absurd rfl, absurd rfl, absurd rfl, absurd rfl, .of_same rfl rfl rfl rfl⟩
  | fails h body f hc => exact hc ▸ loadFailed_owned h f s
  | loads h body hc =>
    exact ⟨fun _ => .inr (.inr ⟨body, hc⟩), fun _ => ⟨body, hc⟩, fun _ => .inr ⟨body, hc⟩, fun _ => .inr ⟨body, hc⟩,
      absurd rfl, absurd rfl, absurd rfl, .of_same rfl rfl rfl rfl⟩

/-- What a command does leaves the queue of commands and the bytes that wait. -/
theorem Acts.waiting (h : Acts c s t) : t.pending = s.pending ∧ t.dataIn = s.dataIn := by
  cases h with
  | settles u hu =>
    have hsame := hu.sameSettings.trans (sameSettings_settle s u)
    exact ⟨hsame.pending, hsame.dataIn⟩
  | ticked =>
    obtain ⟨_, _, _, _, _, _, _, _, _, _, _, _, h⟩ := expireAll_only allTimers (countTick s)
    rw [h]
    exact ⟨rfl, rfl⟩
  | fails h body f => cases f <;> exact ⟨rfl, rfl⟩
  | _ => exact ⟨rfl, rfl⟩

theorem Acts.port (h : Acts c s t) (hpower : ∀ b, c ≠ .powerOnReset b) : t.port = s.port := by
  cases h with
  | powered b hc => exact absurd hc (hpower b)
  | settles u hu => exact (hu.sameSettings.trans (sameSettings_settle s u)).port
  | ticked =>
    obtain ⟨_, _, _, _, _, _, _, _, _, _, _, _, h⟩ := expireAll_only allTimers (countTick s)
    rw [h]
    rfl
  | fails h body f => cases f <;> rfl
  | _ => rfl

end

/-- Settles O2: what a command does changes what the command owns, case by case, and the port is moved by its own rows. -/
theorem settingsChangeByTheirOwnRows : Obligations.SettingsChangeByTheirOwnRows := by
  intro c s
  obtain ⟨t, h⟩ := exec_completes c s
  obtain ⟨w, p, hacts, rfl, hport⟩ := exec_does h
  obtain ⟨hpending, hdataIn⟩ := hacts.waiting
  refine ⟨_, h, hpending, hdataIn, fun hpower => ?_⟩
  have owned := hacts.owned hpower
  refine ⟨owned.operating, owned.image, owned.boot, owned.waitLimits, owned.timebase, owned.alertMask, owned.staging,
    owned.counters.granted, owned.counters.accepted, owned.counters.grows, owned.counters.stranded, fun hmoved => ?_⟩
  exact hport.resolve_left fun hkept => hmoved (hkept.trans (hacts.port hpower))

end Sys2Proof.Machine
end

section
/-! SUPPORT. The conditions of a grant in the terms of the statements, the performings of an event, what the rest of an event
keeps; the statements about grants in turn and about the latch. -/

namespace Sys2Proof.Machine

/-! ## The conditions of a grant (R58 to R63) -/

section
variable {s : State} {p : Pair} {r : TagRecord} {pl : Place}

theorem verdictOk_iff : verdictOk r pl = true ↔
    r.verdict = .committed ∨ (r.kind = .read ∧ pl.cls ≠ .hold) ∨ (r.kind = .lockRead ∧ pl.cls = .pass) := by
  unfold verdictOk
  cases r.kind <;> simp

theorem overlap_iff {xs ys : List Nat} : overlap xs ys = true ↔ ∃ a ∈ xs, a ∈ ys := by
  simp [overlap]

theorem State.olderOverlap_iff : s.olderOverlap p r pl = true ↔ ∃ (t : Tag) (w : TagRecord), s.tag ⟨p.initiator, t⟩ = some w ∧
    w.order < r.order ∧ (w.kind = .write ∨ w.kind = .lockWrite) ∧ w.position ≠ .done ∧
    ∃ x : Place, w.place = some x ∧ x.select = pl.select ∧
      ∃ a ∈ footprint x w.size w.count, a ∈ footprint pl r.size r.count := by
  rw [State.olderOverlap, State.anyRecord_iff]
  refine exists_congr fun t => exists_congr fun w => and_congr_right fun _ => ?_
  rw [Bool.and_eq_true, Bool.and_eq_true, Bool.and_eq_true, and_assoc, and_assoc]
  refine and_congr (by simp) (and_congr (by simp [TagRecord.writes]) (and_congr (by simp) ?_))
  cases w.place with
  | none => simp
  | some x => simp [overlap_iff]

theorem State.olderOverlap_eq_false_iff : s.olderOverlap p r pl = false ↔ ∀ (t : Tag) (w : TagRecord) (x : Place),
    s.tag ⟨p.initiator, t⟩ = some w → w.order < r.order → w.kind = .write ∨ w.kind = .lockWrite → w.position ≠ .done →
      w.place = some x → x.select = pl.select → ∀ a ∈ footprint x w.size w.count, a ∉ footprint pl r.size r.count := by
  rw [← Bool.not_eq_true, State.olderOverlap_iff]
  exact ⟨fun h t w x hw horder hkind hpos hx hselect a ha hmem => h ⟨t, w, hw, horder, hkind, hpos, x, hx, hselect, a, ha, hmem⟩,
    fun h ⟨t, w, hw, horder, hkind, hpos, x, hx, hselect, a, ha, hmem⟩ => h t w x hw horder hkind hpos hx hselect a ha hmem⟩

/-- The first three conditions of R58, in the terms of the statements. -/
theorem State.candidate_iff (hplace : r.place = some pl) : s.candidate p r pl = true ↔ MayGoNext s p r pl := by
  have ordered : r.ordered = true ↔ ¬(r.kind = .read ∧ pl.cls = .pass) := by simp [TagRecord.ordered_iff, hplace]
  have order : s.orderOk p r pl = true ↔
      (¬(r.kind = .read ∧ pl.cls = .pass) → s.olderWaiting p r = false) ∧
      (r.kind = .read → pl.cls = .pass → s.olderOverlap p r pl = false) := by
    unfold State.orderOk
    by_cases hpass : r.kind = .read ∧ pl.cls = .pass
    · rw [if_neg (fun h => ordered.1 h hpass), Bool.not_eq_true']
      simp [hpass]
    · rw [if_pos (ordered.2 hpass), Bool.not_eq_true']
      exact ⟨fun h => ⟨fun _ => h, fun hk hc => absurd ⟨hk, hc⟩ hpass⟩, fun h => h.1 hpass⟩
  have reservation : s.reservationOk p r pl = true ↔ ¬Touches s p.initiator pl.select (footprint pl r.size r.count) := by
    rw [State.reservationOk, Bool.not_eq_true', ← Bool.not_eq_true, State.reservedAgainst_iff]
  simp only [State.candidate, Bool.and_eq_true, decide_eq_true_eq, Bool.not_eq_true', decide_eq_false_iff_not, verdictOk_iff,
    order, reservation, State.olderWaiting_eq_false_iff, State.olderOverlap_eq_false_iff, and_assoc]

/-- The capture-entry condition, in the terms of the statements (R63, R70). -/
theorem State.captureOk_iff : s.captureOk r pl = true ↔ MayTakeAnEntry s r pl := by
  have conflict : (!(s.conflicts pl r.size r.count).isEmpty) = true ↔ ¬NoConflict s r pl := by
    rw [← conflicts_eq_nil_iff, Bool.not_eq_true', List.isEmpty_eq_false_iff]
  have unguarded : (!r.guarded pl) = true ↔ ¬IsGuarded r pl := by
    rw [← TagRecord.guarded_iff, Bool.not_eq_true', Bool.not_eq_true]
  have entry : (match r.verdict with
      | .none => decide (Config.speculativeNeed ≤ s.effectiveFree pl r.size r.count)
      | .committed => decide (r.count ≤ (takenBeats (s.consumption pl r.size r.count)).length) ||
          decide (Config.committedNeed ≤ s.effectiveFree pl r.size r.count)) = true ↔
      if r.verdict = .committed then
        r.count ≤ (takenBeats (s.consumption pl r.size r.count)).length ∨ 1 ≤ s.effectiveFree pl r.size r.count
      else 3 ≤ s.effectiveFree pl r.size r.count := by
    cases r.verdict with
    | none =>
      rw [if_neg nofun]
      exact decide_eq_true_iff
    | committed =>
      rw [if_pos rfl, Bool.or_eq_true, decide_eq_true_iff]
      exact or_congr_right decide_eq_true_iff
  rw [State.captureOk, Bool.or_eq_true, Bool.or_eq_true, conflict, unguarded, MayTakeAnEntry, ← entry]
  tauto

theorem State.stalled_iff : s.stalled p = true ↔ ∃ (r : TagRecord) (pl : Place), s.tag p = some r ∧ r.place = some pl ∧
    r.verdict = .committed ∧ MayGoNext s p r pl ∧ ¬MayTakeAnEntry s r pl := by
  constructor
  · intro h
    obtain ⟨r, pl, hr, hpl, hverdict, hcandidate, hcapture⟩ := State.stalled_spec h
    refine ⟨r, pl, hr, hpl, hverdict, (State.candidate_iff hpl).1 hcandidate, ?_⟩
    rw [← State.captureOk_iff, hcapture]
    exact Bool.false_ne_true
  · rintro ⟨r, pl, hr, hpl, hverdict, hnext, hentry⟩
    rw [← State.captureOk_iff, Bool.not_eq_true] at hentry
    simp [State.stalled, hr, hpl, hverdict, (State.candidate_iff hpl).2 hnext, hentry]

theorem State.eligible_iff : s.eligible p = true ↔ ∃ (r : TagRecord) (pl : Place), s.tag p = some r ∧ r.place = some pl ∧
    MayGoNext s p r pl ∧ MayTakeAnEntry s r pl := by
  unfold State.eligible
  cases hr : s.tag p with
  | none => simp
  | some r =>
    cases hpl : r.place with
    | none => simp [hpl]
    | some pl =>
      have conditions := and_congr (State.candidate_iff (s := s) (p := p) hpl) (State.captureOk_iff (s := s) (r := r) (pl := pl))
      rw [← Bool.and_eq_true] at conditions
      simp only [hpl]
      refine conditions.trans ⟨fun h => ⟨r, pl, rfl, hpl, h⟩, ?_⟩
      rintro ⟨r', pl', hr', hpl', h⟩
      obtain rfl := Option.some_inj.1 hr'
      obtain rfl := Option.some_inj.1 (hpl.symm.trans hpl')
      exact h

end

/-! ## The performings of an event (R64, R141) -/

/-- `u` is what performing ready UNLOCKs, one after the other, makes of `s`. -/
inductive Performs : State → State → Prop
  | refl (s : State) : Performs s s
  | step {s u : State} (p : Pair) (hready : s.Ready p) (hrest : Performs (performUnlock p s) u) : Performs s u

theorem Performs.trans {s t u : State} (h : Performs s t) (k : Performs t u) : Performs s u := by
  induction h with
  | refl => exact k
  | step p hready _ ih => exact .step p hready (ih k)

theorem performs_performReady (i : Initiator) (n : Nat) (s : State) : Performs s (performReady i n s) := by
  induction n generalizing s with
  | zero => exact .refl s
  | succ n ih =>
    cases h : s.readyUnlock i with
    | none =>
      rw [performReady_of_none h]
      exact .refl s
    | some p =>
      rw [performReady_of_some h]
      exact .step p (State.ready_of_readyUnlock h).2 (ih _)

theorem performs_performUnlocks (s : State) : Performs s (performUnlocks s) :=
  foldl_related Performs.refl Performs.trans (fun s i => performs_performReady i 16 s) _ s

/-- What each performing keeps, the performings keep. -/
theorem Performs.keeps {P : State → Prop} (hP : ∀ s p, s.Ready p → P s → P (performUnlock p s)) {s u : State}
    (h : Performs s u) (hs : P s) : P u := by
  induction h with
  | refl => exact hs
  | step p hready _ ih => exact ih (hP _ p hready hs)

/-! ## What the rest of an event keeps -/

/-- The latch follows with at most a record raised. -/
theorem followLatch_only (s u : State) :
    ∃ q o l, followLatch s u = { u with events := q, overflow := o, latch := l } := by
  obtain ⟨q, o, l, hset⟩ := latchSet_only s u
  obtain ⟨l', hclear⟩ := latchClear_only s (latchSet s u)
  exact ⟨q, o, l', by rw [followLatch, hclear, hset]⟩

/-- A completed drain, or nothing. -/
theorem completeDrain_cases (s : State) : completeDrain s = s ∨ ∃ r n, s.apply = .draining r n ∧ s.useCount r = 0 ∧
    completeDrain s = (makeChange r { s with apply := .idle }).raise { kind := .applyDone, region := r } := by
  cases hdrain : s.apply with
  | idle => exact .inl (completeDrain_of_not_due (by simp [State.drainDue, hdrain]))
  | draining r n =>
    by_cases hunused : s.useCount r = 0
    · exact .inr ⟨r, n, rfl, hunused, completeDrain_of_unused hdrain hunused⟩
    · exact .inl (completeDrain_of_not_due (by simp [State.drainDue, hdrain, hunused]))

/-- What performings, drains' ends and the latch keep, the rest of an event keeps. -/
theorem settle_keeps {P : State → Prop} (hunlock : ∀ u p, u.Ready p → P u → P (performUnlock p u))
    (hdrain : ∀ u r n, u.apply = .draining r n → u.useCount r = 0 → P u →
      P ((makeChange r { u with apply := .idle }).raise { kind := .applyDone, region := r }))
    (hlatch : ∀ u q o l, P u → P { u with events := q, overflow := o, latch := l }) (s : State) {u : State} (hu : P u) :
    P (settle s u) := by
  have performed : P (performUnlocks u) := (performs_performUnlocks u).keeps hunlock hu
  have completed : P (completeDrain (performUnlocks u)) := by
    obtain h | ⟨r, n, happly, hunused, h⟩ := completeDrain_cases (performUnlocks u)
    · rwa [h]
    · rw [h]
      exact hdrain _ r n happly hunused performed
  obtain ⟨q, o, l, h⟩ := followLatch_only s (completeDrain (performUnlocks u))
  rw [settle, h]
  exact hlatch _ q o l completed

/-- A record after the rest of an event is as it was, or an UNLOCK that has been performed. -/
theorem tag_performs {s u : State} (h : Performs s u) (q : Pair) : u.tag q = s.tag q ∨ u.tag q = none ∧
    ∃ r, s.tag q = some r ∧ r.kind = .unlock ∧ r.verdict = .committed ∧ r.position = .waiting := by
  induction h with
  | refl => exact .inl rfl
  | @step s u p hready _ ih =>
    rw [tag_performUnlock hready] at ih
    by_cases hq : q = p
    · rw [if_pos hq] at ih
      obtain ⟨r, hr, hkind, hverdict, hwaiting, -⟩ := hready
      exact .inr ⟨ih.elim id (·.1), r, hq ▸ hr, hkind, hverdict, hwaiting⟩
    · rwa [if_neg hq] at ih

/-- Records are read off the tag table alone. -/
theorem State.tag_congr {s u : State} (h : u.tags = s.tags) (q : Pair) : u.tag q = s.tag q := by
  rw [State.tag, State.tag, h]

theorem tags_completeDrain (s : State) : (completeDrain s).tags = s.tags := by
  obtain ⟨_, _, _, _, _, h⟩ := completeDrain_only s
  rw [h]

theorem tags_followLatch (s u : State) : (followLatch s u).tags = u.tags := by
  obtain ⟨_, _, _, h⟩ := followLatch_only s u
  rw [h]

theorem tags_settle (s u : State) : (settle s u).tags = (performUnlocks u).tags :=
  (tags_followLatch s _).trans (tags_completeDrain _)

theorem tag_settle (s u : State) (q : Pair) : (settle s u).tag q = u.tag q ∨ (settle s u).tag q = none ∧
    ∃ r, u.tag q = some r ∧ r.kind = .unlock ∧ r.verdict = .committed ∧ r.position = .waiting := by
  rw [State.tag_congr (tags_settle s u)]
  exact tag_performs (performs_performUnlocks u) q

/-! ## After the rest of an event nothing is due (R14, R141) -/

theorem readyUnlock_of_tags {s u : State} (h : ∀ q, u.tag q = s.tag q) (i : Initiator) :
    u.readyUnlock i = s.readyUnlock i := State.readyUnlock_congr fun _ => h _

theorem drainDue_completeDrain (s : State) : (completeDrain s).drainDue = false := by
  obtain h | ⟨r, n, -, -, h⟩ := completeDrain_cases s
  · cases hdrain : s.apply with
    | idle =>
      rw [h]
      simp [State.drainDue, hdrain]
    | draining r n =>
      by_contra hdue
      rw [h, Bool.not_eq_false, State.drainDue, hdrain, decide_eq_true_eq] at hdue
      rw [completeDrain_of_unused hdrain hdue] at h
      obtain ⟨_, _, _, _, hchange⟩ := makeChange_only r { s with apply := .idle }
      have idle := congrArg State.apply h
      rw [hchange, hdrain] at idle
      cases idle
  · obtain ⟨_, _, _, _, hchange⟩ := makeChange_only r { s with apply := .idle }
    rw [h, hchange]
    rfl

/-- Whether a drain is due is read off the apply state and what counts as use. -/
theorem drainDue_followLatch (s u : State) : (followLatch s u).drainDue = u.drainDue := by
  obtain ⟨_, _, _, h⟩ := followLatch_only s u
  rw [h]
  rfl

theorem settled_settle (s u : State) : Settled (settle s u) := by
  refine ⟨fun i => ?_, (drainDue_followLatch s _).trans (drainDue_completeDrain _)⟩
  exact (readyUnlock_of_tags (State.tag_congr (tags_settle s u)) i).trans (readyUnlock_performUnlocks u i)

/-! ## The latch at an event (R82, R83) -/

/-- The CAPTURE_EXHAUSTED record of a read, as it stands in the queue of `t`. -/
def exhaustedRecord (t : State) (p : Pair) (pl : Place) : EventRecord :=
  { kind := .captureExhausted, initiator := p.initiator, select := pl.select, tag := BitVec.ofNat 8 p.tag.val
    region := pl.region, timestamp := t.timebase, address := pl.start.setWidth 32
    countA := BitVec.ofNat 16 (t.entriesWhere CaptureEntry.isStrand).length
    countB := BitVec.ofNat 16 (t.entriesWhere CaptureEntry.isCaptured).length }

/-- How the latch may have changed between the two states of an event. -/
structure LatchFollows (s t : State) : Prop where
  clears : s.latch = true → (t.latch = false ↔ s.freeCount < 4 ∧ 4 ≤ t.freeCount)
  sets : s.latch = false → t.latch = true → ∃ (p : Pair) (r : TagRecord) (pl : Place), t.tag p = some r ∧
    r.place = some pl ∧ r.verdict = .committed ∧ t.stalled p = true ∧ s.stalled p = false ∧
    t.effectiveFree pl r.size r.count = 0 ∧
    (t.events.getLast? = some (exhaustedRecord t p pl) ∨ 16 ≤ t.events.length ∧ t.overflow = true)

section
variable {s t u : State}

/-- The latch and the free count stand. -/
theorem LatchFollows.of_same (hlatch : t.latch = s.latch) (hfree : t.freeCount = s.freeCount) : LatchFollows s t := by
  refine ⟨fun hset => ⟨fun hclear => ?_, fun hrisen => ?_⟩, fun hclear hset => ?_⟩
  · rw [hlatch, hset] at hclear
    cases hclear
  · omega
  · rw [hlatch, hclear] at hset
    cases hset

theorem LatchFollows.withPort (h : LatchFollows s t) (p : Port) : LatchFollows s { t with port := p } :=
  ⟨h.clears, h.sets⟩

/-- A stalled read has an effective free count of 0: it is COMMITTED, and one entry would do (R70, R82). -/
theorem effectiveFree_of_stalled {p : Pair} {r : TagRecord} {pl : Place} (hr : u.tag p = some r) (hpl : r.place = some pl)
    (h : u.stalled p = true) : u.effectiveFree pl r.size r.count = 0 := by
  obtain ⟨r', pl', hr', hpl', hverdict, -, hentry⟩ := State.stalled_iff.1 h
  obtain rfl := Option.some_inj.1 (hr.symm.trans hr')
  obtain rfl := Option.some_inj.1 (hpl.symm.trans hpl')
  by_contra hfree
  refine hentry fun _ _ => ?_
  rw [if_pos hverdict]
  exact .inr (Nat.pos_of_ne_zero hfree)

/-- A record raised is the youngest, or the queue is full and the overflow flag set (R171, R172). -/
theorem raise_getLast (e : EventRecord) : (u.raise e).events.getLast? = some { e with timestamp := u.timebase } ∨
    16 ≤ (u.raise e).events.length ∧ (u.raise e).overflow = true := by
  by_cases room : u.events.length < 16
  · rw [State.raise_of_room e room]
    exact .inl List.getLast?_concat
  · rw [State.raise_of_full e (Nat.not_lt.1 room)]
    exact .inr ⟨Nat.not_lt.1 room, rfl⟩

theorem latchFollows_followLatch (hlatch : u.latch = s.latch) : LatchFollows s (followLatch s u) := by
  by_cases hold : s.latch = true
  · rw [followLatch_of_no_new_stall (.inl (hlatch.trans hold))]
    refine ⟨fun _ => ?_, fun hclear => absurd hold (by simp [hclear])⟩
    change (if s.freeCount < 4 ∧ 4 ≤ u.freeCount then false else u.latch) = false ↔ s.freeCount < 4 ∧ 4 ≤ u.freeCount
    rw [hlatch, hold]
    split <;> simp_all
  · rw [Bool.not_eq_true] at hold
    refine ⟨fun hset => absurd hset (by simp [hold]), fun _ hset => ?_⟩
    by_cases hnew : ∃ p : Pair, u.stalled p = true ∧ s.stalled p = false
    · obtain ⟨p, hp, hsp, -, hfollow⟩ := followLatch_of_new_stall (hlatch.trans hold) hnew
      obtain ⟨r, pl, hr, hpl, hverdict, -⟩ := State.stalled_spec hp
      rw [hfollow, exhaustedEvent_eq hr hpl]
      exact ⟨p, r, pl, hr, hpl, hverdict, hp, hsp, effectiveFree_of_stalled hr hpl hp, raise_getLast _⟩
    · have none_new (p : Pair) (hp : u.stalled p = true) : s.stalled p = true := by
        by_contra hsp
        exact hnew ⟨p, hp, Bool.eq_false_iff.2 hsp⟩
      rw [followLatch_of_no_new_stall (.inr none_new)] at hset
      change (if s.freeCount < 4 ∧ 4 ≤ u.freeCount then false else u.latch) = true at hset
      rw [hlatch, hold, ite_self] at hset
      cases hset

theorem latch_completeDrain (s : State) : (completeDrain s).latch = s.latch := by
  obtain ⟨_, _, _, _, _, h⟩ := completeDrain_only s
  rw [h]

theorem latch_performUnlocks (s : State) : (performUnlocks s).latch = s.latch := by
  obtain ⟨_, _, _, _, _, h⟩ := performUnlocks_only s
  rw [h]

theorem Effect.latch {c : Instr} (h : Effect c s u) : u.latch = s.latch := by
  obtain ⟨_, _, _, _, _, _, _, _, _, _, _, _, _, _, _, rfl⟩ := h.changes
  rfl

theorem latchFollows_settle {c : Instr} (h : Effect c s u) : LatchFollows s (settle s u) :=
  latchFollows_followLatch ((latch_completeDrain _).trans ((latch_performUnlocks u).trans h.latch))

theorem Acts.latchFollows {c : Instr} (h : Acts c s t) (hpower : ∀ b, c ≠ .powerOnReset b) (htick : c ≠ .timebaseTick) :
    LatchFollows s t := by
  cases h with
  | powered b hc => exact absurd hc (hpower b)
  | ticked hc => exact absurd hc htick
  | settles u hu => exact latchFollows_settle hu
  | fails h body f => cases f <;> exact .of_same rfl rfl
  | _ => exact .of_same rfl rfl

end

/-- Settles O5: the latch moves where an event follows its own effects, and with nothing else. -/
theorem theLatchReportsExhaustion : Obligations.TheLatchReportsExhaustion := by
  refine ⟨fun p s => State.stalled_iff, fun c s t hexec hpower htick => ?_⟩
  obtain ⟨w, p, hacts, rfl, -⟩ := exec_does hexec
  have follows := (hacts.latchFollows hpower htick).withPort p
  exact ⟨follows.clears, follows.sets⟩

/-! ## Nothing due after a step -/

section
variable {s t : State}

/-- Whether anything is due is read off the records, the apply state, the entries and the reservations. -/
theorem Settled.congr (h : Settled s) (htags : t.tags = s.tags) (happly : t.apply = s.apply) (hentries : t.entries = s.entries)
    (hslots : t.slots = s.slots) : Settled t := by
  obtain ⟨hready, hdrain⟩ := h
  refine ⟨fun i => (readyUnlock_of_tags (State.tag_congr htags) i).trans (hready i), ?_⟩
  have uses (r : RegionIx) : t.useCount r = s.useCount r := by
    simp only [State.useCount, State.recordUses, State.entryUses, State.entriesWhere, State.slotUses,
      State.tag_congr htags, hentries, hslots]
  rwa [State.drainDue, happly, funext uses]

/-- With no drain in progress none is due. -/
theorem Settled.of_idle (h : Settled s) (htags : t.tags = s.tags) (hidle : t.apply = .idle) : Settled t :=
  ⟨fun i => (readyUnlock_of_tags (State.tag_congr htags) i).trans (h.1 i), by simp [State.drainDue, hidle]⟩

end

end Sys2Proof.Machine
end

section
/-! SUPPORT. The operations that bring no timer to its limit, take no reservation, set no lock-lost flag and open no access:
releases, removals, the ends of accesses, the rest of an event, and the acceptance of a request. -/

namespace Sys2Proof.Machine

/-! ## What only closes -/

/-- No timer is at its limit in `u` that was not in `s`; the reservations of `u` are those of `s` but for their state and
lock-read record, less some; no lock-lost flag is set anew; and the access of `u` is that of `s`, if there is one. -/
structure Closes (s u : State) : Prop where
  due : ∀ T, u.due T = true → s.due T = true
  slots : ∀ k : SlotIx, ∀ v ∈ u.slots[k], ∃ w ∈ s.slots[k], w.key = v.key
  flags : ∀ i : Initiator, u.lockLost[i] = true → s.lockLost[i] = true
  limit : ∀ a ∈ u.access, ∃ b ∈ s.access, a.limit = b.limit

/-- Whether a timer is due is read off the tables, the apply state and the access. -/
theorem State.due_congr {s u : State} (htags : u.tags = s.tags) (hentries : u.entries = s.entries) (hslots : u.slots = s.slots)
    (happly : u.apply = s.apply) (haccess : u.access = s.access) (T : Timer) : u.due T = s.due T := by
  cases T with
  | verdict p => simp only [State.due, State.tag_congr htags]
  | strand e => simp only [State.due, hentries]
  | lock k => simp only [State.due, hslots]
  | drain => simp only [State.due, happly]
  | wait => simp only [State.due, haccess]

namespace Closes

variable {s t u : State}

theorem refl (s : State) : Closes s s := ⟨fun _ => id, fun _ v hv => ⟨v, hv, rfl⟩, fun _ => id, fun a ha => ⟨a, ha, rfl⟩⟩

theorem trans (h : Closes s t) (k : Closes t u) : Closes s u where
  due T hT := h.due T (k.due T hT)
  slots l v hv := by
    obtain ⟨w, hw, hkey⟩ := k.slots l v hv
    obtain ⟨x, hx, hkey'⟩ := h.slots l w hw
    exact ⟨x, hx, hkey'.trans hkey⟩
  flags i hi := h.flags i (k.flags i hi)
  limit a ha := by
    obtain ⟨b, hb, hlimit⟩ := k.limit a ha
    obtain ⟨c, hc, hlimit'⟩ := h.limit b hb
    exact ⟨c, hc, hlimit.trans hlimit'⟩

/-- The later of two changes first, so that its state is known when the earlier is looked at. -/
theorem after (k : Closes t u) (h : Closes s t) : Closes s u := h.trans k

/-- A state with the same tables, apply state and access closes nothing. -/
theorem of_same (htags : u.tags = s.tags) (hentries : u.entries = s.entries) (hslots : u.slots = s.slots)
    (hflags : u.lockLost = s.lockLost) (happly : u.apply = s.apply) (haccess : u.access = s.access) : Closes s u where
  due T hT := (State.due_congr htags hentries hslots happly haccess T).symm.trans hT
  slots _ v hv := ⟨v, by rwa [← hslots], rfl⟩
  flags _ hi := by rwa [← hflags]
  limit a ha := ⟨a, haccess ▸ ha, rfl⟩

theorem respond (s : State) (r : Response) : Closes s (s.respond r) := .of_same rfl rfl rfl rfl rfl rfl

theorem raise (s : State) (e : EventRecord) : Closes s (s.raise e) := .of_same rfl rfl rfl rfl rfl rfl

/-- A change of records alone closes what it closes of them. -/
theorem of_tags (hentries : u.entries = s.entries) (hslots : u.slots = s.slots) (hflags : u.lockLost = s.lockLost)
    (happly : u.apply = s.apply) (haccess : u.access = s.access)
    (hdue : ∀ p, u.due (.verdict p) = true → s.due (.verdict p) = true) : Closes s u where
  due T hT := by
    cases T with
    | verdict p => exact hdue p hT
    | strand e => simpa only [State.due, hentries] using hT
    | lock k => simpa only [State.due, hslots] using hT
    | drain => simpa only [State.due, happly] using hT
    | wait => simpa only [State.due, haccess] using hT
  slots _ v hv := ⟨v, by rwa [← hslots], rfl⟩
  flags _ hi := by rwa [← hflags]
  limit a ha := ⟨a, haccess ▸ ha, rfl⟩

/-- A pair is given a record whose verdict timer runs out no more than that of the one before. -/
theorem setTag (s : State) (p : Pair) (x : Option TagRecord)
    (h : ∀ r ∈ x, r.timer = some 0 → r.verdict = .none → s.due (.verdict p) = true) : Closes s (s.setTag p x) := by
  refine of_tags rfl rfl rfl rfl rfl fun q hq => ?_
  obtain ⟨r, hr, htimer, hverdict⟩ := State.due_verdict_iff.1 hq
  rw [State.tag_setTag] at hr
  split at hr
  · rename_i hqp
    exact hqp ▸ h r hr htimer hverdict
  · exact State.due_verdict_iff.2 ⟨r, hr, htimer, hverdict⟩

theorem setTag_none (s : State) (p : Pair) : Closes s (s.setTag p none) := setTag s p none fun _ hr => nomatch hr

/-- A record stays with its verdict and timer. -/
theorem setTag_some {s : State} {p : Pair} {r w : TagRecord} (hw : s.tag p = some w) (htimer : r.timer = w.timer)
    (hverdict : r.verdict = w.verdict) : Closes s (s.setTag p (some r)) := by
  refine setTag s p (some r) fun x hx hzero hnone => State.due_verdict_iff.2 ⟨w, hw, ?_⟩
  obtain rfl := Option.some_inj.1 hx
  exact ⟨htimer ▸ hzero, hverdict ▸ hnone⟩

/-- An entry holds what has a strand timer at its limit only if it had one so before. -/
theorem setEntry (s : State) (e : EntryIx) (x : Option CaptureEntry)
    (h : ∀ c ∈ x, ∀ n : Nat, c.state = .stranded n (some 0) → s.due (.strand e) = true) : Closes s (s.setEntry e x) where
  due T hT := by
    cases T with
    | strand d =>
      obtain ⟨c, hc, n, hzero⟩ := State.due_strand_iff.1 hT
      rw [State.entries_setEntry] at hc
      split at hc
      · rename_i hde
        exact hde ▸ h c hc n hzero
      · exact State.due_strand_iff.2 ⟨c, hc, n, hzero⟩
    | _ => exact hT
  slots _ v hv := ⟨v, hv, rfl⟩
  flags _ := id
  limit a ha := ⟨a, ha, rfl⟩

theorem setEntry_none (s : State) (e : EntryIx) : Closes s (s.setEntry e none) := setEntry s e none fun _ hc => nomatch hc

/-- An entry that is no strand has no timer. -/
theorem setEntry_some {s : State} {e : EntryIx} {c : CaptureEntry} (h : c.isStrand = false) :
    Closes s (s.setEntry e (some c)) := by
  refine setEntry s e (some c) fun x hx n hzero => ?_
  obtain rfl := Option.some_inj.1 hx
  simp [CaptureEntry.isStrand, hzero] at h

/-- An entry stays in its state. -/
theorem setEntry_same {s : State} {e : EntryIx} {b c : CaptureEntry} (hb : s.entries[e] = some b) (h : c.state = b.state) :
    Closes s (s.setEntry e (some c)) := by
  refine setEntry s e (some c) fun x hx n hzero => State.due_strand_iff.2 ⟨b, hb, n, ?_⟩
  obtain rfl := Option.some_inj.1 hx
  exact h ▸ hzero

/-- A slot is freed, or its reservation stays with its key, and is RESERVED at its limit only if it was. -/
theorem setSlot (s : State) (k : SlotIx) (x : Option Reservation)
    (h : ∀ v ∈ x, ∃ w ∈ s.slots[k], w.key = v.key ∧ (v.state = .reserved 0 → w.state = .reserved 0)) :
    Closes s (s.setSlot k x) where
  due T hT := by
    cases T with
    | lock l =>
      obtain ⟨v, hv, hzero⟩ := State.due_lock_iff.1 hT
      rw [State.slots_setSlot] at hv
      split at hv
      · rename_i hlk
        obtain ⟨w, hw, -, hstate⟩ := h v hv
        exact State.due_lock_iff.2 ⟨w, hlk ▸ hw, hstate hzero⟩
      · exact State.due_lock_iff.2 ⟨v, hv, hzero⟩
    | _ => exact hT
  slots l v hv := by
    rw [State.slots_setSlot] at hv
    split at hv
    · rename_i hlk
      obtain ⟨w, hw, hkey, -⟩ := h v hv
      exact ⟨w, hlk ▸ hw, hkey⟩
    · exact ⟨v, hv, rfl⟩
  flags _ := id
  limit a ha := ⟨a, ha, rfl⟩

theorem setSlot_none (s : State) (k : SlotIx) : Closes s (s.setSlot k none) := setSlot s k none fun _ hv => nomatch hv

/-- A reservation stays where it is, with its key and state. -/
theorem setSlot_some {s : State} {k : SlotIx} {v w : Reservation} (hw : s.slots[k] = some w) (hkey : w.key = v.key)
    (hstate : v.state = .reserved 0 → w.state = .reserved 0) : Closes s (s.setSlot k (some v)) := by
  refine setSlot s k (some v) fun x hx => ⟨w, hw, ?_⟩
  obtain rfl := Option.some_inj.1 hx
  exact ⟨hkey, hstate⟩

theorem setLockLost (s : State) (i : Initiator) : Closes s (s.setLockLost i false) where
  due T hT := hT
  slots _ v hv := ⟨v, hv, rfl⟩
  flags j hj := by
    rw [State.lockLost_setLockLost] at hj
    split at hj
    · cases hj
    · exact hj
  limit a ha := ⟨a, ha, rfl⟩

/-- The access is closed, or stays with its limit, its wait timer at its limit only if it was. -/
theorem setAccess (s : State) (x : Option Access)
    (h : ∀ a ∈ x, ∃ b ∈ s.access, a.limit = b.limit ∧ ∀ f ∈ a.flight, f.timer = 0 → s.due .wait = true) :
    Closes s (s.setAccess x) where
  due T hT := by
    cases T with
    | wait =>
      obtain ⟨a, ha, f, hf, hzero⟩ := State.due_wait_iff.1 hT
      obtain ⟨_, _, _, hwait⟩ := h a ha
      exact hwait f hf hzero
    | _ => exact hT
  slots _ v hv := ⟨v, hv, rfl⟩
  flags _ := id
  limit a ha := by
    obtain ⟨b, hb, hlimit, -⟩ := h a ha
    exact ⟨b, hb, hlimit⟩

theorem setAccess_none (s : State) : Closes s (s.setAccess none) := setAccess s none fun _ ha => nomatch ha

/-- The access stays, with no beat in flight. -/
theorem setAccess_idle {s : State} {a b : Access} (hb : s.access = some b) (hlimit : a.limit = b.limit)
    (hflight : a.flight = none) : Closes s (s.setAccess (some a)) := by
  refine setAccess s (some a) fun x hx => ⟨b, hb, ?_⟩
  obtain rfl := Option.some_inj.1 hx
  exact ⟨hlimit, fun f hf => by simp [hflight] at hf⟩

/-- The access stays, with its beat in flight. -/
theorem setAccess_same {s : State} {a b : Access} (hb : s.access = some b) (hlimit : a.limit = b.limit)
    (hflight : a.flight = b.flight) : Closes s (s.setAccess (some a)) := by
  refine setAccess s (some a) fun x hx => ⟨b, hb, ?_⟩
  obtain rfl := Option.some_inj.1 hx
  exact ⟨hlimit, fun f hf hzero => State.due_wait_iff.2 ⟨b, hb, f, hflight ▸ hf, hzero⟩⟩

/-- The apply state becomes IDLE. -/
theorem idle (s : State) : Closes s { s with apply := .idle } where
  due T hT := by
    cases T with
    | drain => cases hT
    | _ => exact hT
  slots _ v hv := ⟨v, hv, rfl⟩
  flags _ := id
  limit a ha := ⟨a, ha, rfl⟩

/-- What closes nothing by each of its steps closes nothing by a fold. -/
theorem foldl {α : Type} {f : State → α → State} (hf : ∀ s a, Closes s (f s a)) (l : List α) (s : State) :
    Closes s (l.foldl f s) := foldl_related refl trans hf l s

end Closes

/-! ## The operations that only close -/

section
variable (s : State)

/-- A fresh strand timer has its window to run, or is none (R102). -/
theorem strandTimer_ne_zero (window : BitVec 16) :
    (if window = 0 then none else some window.toNat) ≠ some 0 := by
  split
  · exact nofun
  · rename_i hne
    rw [Ne, Option.some_inj]
    exact fun h => hne (BitVec.eq_of_toNat_eq h)

theorem closes_strandEntry (e : EntryIx) : Closes s (strandEntry e s) := by
  unfold strandEntry
  split
  · exact .refl s
  · rename_i c hc
    have stranded : Closes s (s.setEntry e (some { c with
        state := .stranded s.strandCounter (if c.window = 0 then none else some c.window.toNat) })) := by
      refine .setEntry s e _ fun x hx n hzero => ?_
      obtain rfl := Option.some_inj.1 hx
      simp only [EntryState.stranded.injEq] at hzero
      exact absurd hzero.2 (strandTimer_ne_zero c.window)
    exact stranded.trans (.of_same rfl rfl rfl rfl rfl rfl)

theorem closes_strandAll (es : List Numbered) : Closes s (strandAll es s) :=
  .foldl (fun s (x : Numbered) => closes_strandEntry s x.1) (sortBy CaptureEntry.allocation es) s

theorem closes_unbindEntry (e : EntryIx) : Closes s (unbindEntry e s) := by
  unfold unbindEntry
  split
  · exact .refl s
  · split
    · exact .setEntry_some rfl
    all_goals exact .refl s

theorem closes_appendBeat (e : EntryIx) (v : Word) : Closes s (appendBeat e v s) := by
  unfold appendBeat
  split
  · exact .refl s
  · rename_i c hc
    exact .setEntry_same hc rfl

theorem closes_endUnbound (e : EntryIx) : Closes s (endUnbound e s) := by
  unfold endUnbound
  split
  · exact .refl s
  · split
    · exact .setEntry_none s e
    · exact closes_strandEntry s e

theorem closes_clearLockRead (p : Pair) : Closes s (clearLockRead p s) := by
  unfold clearLockRead
  split
  · rename_i k v hfound
    exact .setSlot_some (State.slots_of_slotWhere_eq_some hfound).1 rfl id
  · exact .refl s

theorem closes_freeWriting (p : Pair) : Closes s (freeWriting p s) := by
  unfold freeWriting
  split
  · exact .setSlot_none s _
  · exact .refl s

theorem closes_freeEntryOf (r : TagRecord) : Closes s (freeEntryOf r s) := by
  unfold freeEntryOf
  split
  · exact .setEntry_none s _
  · exact .refl s

theorem closes_releaseRecord (p : Pair) (r : TagRecord) : Closes s (releaseRecord p r s) :=
  .after (closes_clearLockRead _ p) (.after (closes_freeEntryOf _ r) (.setTag_none s p))

theorem closes_releaseIfFinished (p : Pair) : Closes s (releaseIfFinished p s) := by
  unfold releaseIfFinished
  split
  · split
    · exact closes_releaseRecord s p _
    · exact .refl s
  · exact .refl s

theorem closes_endAccessOf (p : Pair) : Closes s (endAccessOf p s) := by
  unfold endAccessOf
  split
  · exact .refl s
  · rename_i a ha
    have removed : Closes s (s.setAccess (some { a with live := false })) := .setAccess_same ha rfl rfl
    split
    · split
      · split
        · exact .after (closes_unbindEntry _ _) removed
        · exact removed
      · split
        · exact .after (closes_endUnbound _ _) (.setAccess_none s)
        · exact .setAccess_none s
    · exact .refl s

theorem closes_endWithoutWrite (p : Pair) : Closes s (endWithoutWrite p s) := by
  unfold endWithoutWrite
  split
  · exact .refl s
  · rename_i r hr
    exact .after (closes_releaseIfFinished _ p) (.after (.respond _ _) (.setTag_some hr rfl rfl))

theorem closes_lockReadRemoved (p : Pair) : Closes s (lockReadRemoved p s) := by
  unfold lockReadRemoved
  split
  · exact .refl s
  · rename_i k v hfound
    split
    · exact .setSlot_none s k
    · split
      · exact .setSlot_some (State.slots_of_slotWhere_eq_some hfound).1 rfl id
      · exact .after (closes_endWithoutWrite _ _) (.setSlot_none s k)

theorem closes_lockTableRemoval (p : Pair) (r : TagRecord) : Closes s (lockTableRemoval p r s) := by
  unfold lockTableRemoval
  split
  · exact closes_lockReadRemoved s p
  · split
    · exact closes_freeWriting s p
    · exact .refl s
  all_goals exact .refl s

theorem closes_dropRecord (p : Pair) : Closes s (dropRecord p s) := by
  unfold dropRecord
  split
  · exact .refl s
  · exact .after (closes_lockTableRemoval _ p _) (.after (closes_endAccessOf _ p) (.setTag_none s p))

theorem closes_removeRecords (ps : List Pair) : Closes s (removeRecords ps s) :=
  .after (.foldl closes_dropRecord _ _) (closes_strandAll s _)

theorem closes_endRead (a : Access) (failure : Option Status) : Closes s (endRead a failure s) := by
  unfold endRead
  split
  · exact .refl s
  · rename_i r hr
    extract_lets beats done u
    have hu : Closes s u := .respond s _
    have htag : u.tag a.pair = some r := hr
    clear_value beats u
    have answered (v : State) (hv : Closes u v) (htag : v.tag a.pair = some r) (w : TagRecord) (htimer : w.timer = r.timer)
        (hverdict : w.verdict = r.verdict) : Closes s (v.setTag a.pair (some w)) :=
      .after (.setTag_some htag htimer hverdict) (hu.trans hv)
    split
    · exact .after (closes_releaseRecord _ _ _) hu
    · exact answered u (.refl u) htag _ rfl rfl
    · rename_i e _ _
      split
      · exact answered u (.refl u) htag _ rfl rfl
      · rename_i c _
        split
        · exact answered _ (.setEntry_none u e) htag { done with entry := none } rfl rfl
        · exact answered _ (.setEntry_some (c := { c with state := .captured a.pair }) rfl) htag done rfl rfl

theorem closes_endWrite (a : Access) (status : Status) : Closes s (endWrite a status s) := by
  unfold endWrite
  split
  · exact .refl s
  · rename_i r hr
    simp only
    have freed : Closes s (if r.kind = .lockWrite then freeWriting a.pair s else s) := by
      split
      · exact closes_freeWriting s _
      · exact .refl s
    have tag_freed : (if r.kind = .lockWrite then freeWriting a.pair s else s).tag a.pair = some r := by
      split
      · obtain ⟨_, h⟩ := freeWriting_only a.pair s
        rw [h]
        exact hr
      · exact hr
    refine .trans freed ?_
    generalize (if r.kind = .lockWrite then freeWriting a.pair s else s) = u at tag_freed
    refine .after (closes_releaseIfFinished _ _) ?_
    split
    · exact .after (.setTag_some (s := u.respond _) tag_freed rfl rfl) (.respond _ _)
    · exact .setTag_some tag_freed rfl rfl

theorem closes_endRemoved (a : Access) (value : Option Word) : Closes s (endRemoved a value s) := by
  unfold endRemoved
  split
  · exact .refl s
  · split
    · exact .after (closes_endUnbound _ _) (closes_appendBeat s _ _)
    · exact closes_endUnbound s _

theorem closes_beatReady {a : Access} (ha : s.access = some a) (b : Nat) (lines : Word) :
    Closes s (beatReady a b lines s) := by
  have closed := Closes.setAccess_none s
  unfold beatReady
  simp only
  split
  · unfold writtenBeat
    split
    · exact .after (closes_endWrite _ _ _) closed
    · exact .setAccess_idle ha rfl rfl
  · split
    · unfold readBeat
      split
      · split
        · exact .after (closes_endRead _ _ _) (.after (closes_appendBeat _ _ _) closed)
        · exact .after (closes_appendBeat _ _ _) (.setAccess_idle ha rfl rfl)
      · split
        · exact .after (closes_endRead _ _ _) closed
        · exact .setAccess_idle ha rfl rfl
    · exact .after (closes_endRemoved _ _ _) closed

theorem closes_beatFails (a : Access) (b : Nat) (timeout : Bool) : Closes s (beatFails a b timeout s) := by
  have closed := Closes.setAccess_none s
  unfold beatFails
  simp only
  split
  · exact .after (.raise _ _) (.after (closes_endWrite _ _ _) closed)
  · split
    · exact .after (.raise _ _) (.after (closes_endRead _ _ _) closed)
    · exact .after (.raise _ _) (.after (closes_endRemoved _ _ _) closed)

theorem closes_freeEntries (es : List Numbered) : Closes s (freeEntries es s) :=
  .foldl (fun s (x : Numbered) => Closes.setEntry_none s x.1) es s

theorem closes_discard (es : List Numbered) (e : EventRecord) : Closes s (discard es e s) := by
  unfold discard
  split
  · exact .refl s
  · exact .after (.raise _ _) (closes_freeEntries s es)

theorem closes_makeChange (r : RegionIx) : Closes s (makeChange r s) :=
  .after (closes_discard { s with regions := s.regions.set r s.staging } _ _) (.of_same rfl rfl rfl rfl rfl rfl)

theorem closes_completeDrain : Closes s (completeDrain s) := by
  obtain h | ⟨r, n, -, -, h⟩ := completeDrain_cases s
  · rw [h]
    exact .refl s
  · rw [h]
    exact .after (.raise _ _) (.after (closes_makeChange _ r) (.idle s))

theorem closes_unlockEffect (i : Initiator) : Closes s (unlockEffect i s).2 := by
  unfold unlockEffect
  split
  · split
    · exact .setSlot_none s _
    · exact .refl s
  · split
    · exact .setLockLost s i
    · exact .refl s

theorem closes_performUnlock (p : Pair) : Closes s (performUnlock p s) := by
  unfold performUnlock
  split
  · exact .refl s
  · rename_i r hr
    have kept : (unlockEffect p.initiator s).2.tag p = some r := (unlockEffect_tag p).trans hr
    exact .after (closes_releaseIfFinished _ p) (.after (.respond _ _)
      (.after (.setTag_some kept rfl rfl) (closes_unlockEffect s _)))

theorem closes_settle (u : State) : Closes u (settle s u) :=
  settle_keeps (P := Closes u) (fun v p _ h => h.trans (closes_performUnlock v p))
    (fun v r _ _ _ h => .after (.raise _ _) (.after (closes_makeChange _ r) (.after (.idle v) h)))
    (fun _ _ _ _ h => h.trans (.of_same rfl rfl rfl rfl rfl rfl)) s (.refl u)

end

/-! ## The acceptance of a request -/

section
variable (s : State)

/-- A record that joins with a timer that has something left to run. -/
theorem closes_addRecord (p : Pair) {r : TagRecord} (h : r.timer ≠ some 0) : Closes s (addRecord p r s) := by
  have joined : Closes s (s.setTag p (some { r with order := s.acceptance[p.initiator] })) := by
    refine .setTag s p _ fun w hw hzero => ?_
    obtain rfl := Option.some_inj.1 hw
    exact absurd hzero h
  exact joined.trans (.of_same rfl rfl rfl rfl rfl rfl)

theorem closes_refuse (kind : Kind) (q : Request) (status : Status) : Closes s (refuse kind q status s) := by
  unfold refuse
  simp only
  split
  · exact .after (closes_addRecord _ _ (by simp [errorRecord])) (.respond s _)
  · exact .respond s _

theorem takenRecord_timer_ne (kind : Kind) (q : Request) (pl : Option Place) : (takenRecord kind q pl).timer ≠ some 0 := by
  change verdictTimer q pl ≠ some 0
  unfold verdictTimer
  split
  · exact nofun
  · split
    · rename_i hlimit
      rw [Ne, Option.some_inj]
      exact fun h => hlimit.2 (BitVec.eq_of_toNat_eq h)
    · exact nofun

theorem closes_take (kind : Kind) (q : Request) (pl : Option Place) : Closes s (take kind q pl s) := by
  have joined : Closes s (addRecord q.pair (takenRecord kind q pl) s) :=
    closes_addRecord s _ (takenRecord_timer_ne kind q pl)
  unfold take
  simp only
  split
  · exact .after (.respond _ _) joined
  · exact joined

theorem closes_plainLockCheck (kind : Kind) (q : Request) (pl : Place) : Closes s (plainLockCheck kind q pl s) := by
  unfold plainLockCheck
  split
  · exact .respond s _
  · exact closes_take s kind q _

theorem closes_lockWriteCheck (q : Request) (pl : Place) : Closes s (lockWriteCheck q pl s) := by
  unfold lockWriteCheck
  split
  · exact .after (closes_refuse _ _ _ _) (.setLockLost s _)
  · rename_i k v hheld
    have hslot := (State.slots_of_slotWhere_eq_some hheld).1
    split
    · exact closes_refuse s _ _ _
    · split
      · exact .after (closes_take _ _ _ _) (.setSlot_some (v := { v with state := .writing q.tag }) hslot rfl nofun)
      · exact closes_refuse s _ _ _

/-- A LOCK-READ passes its four checks: the state after it is that of its taking, with the lowest free slot. -/
structure TakesLock (q : Request) (s u : State) : Prop where
  free : ∀ k : SlotIx, ∀ v ∈ s.slots[k], v.initiator ≠ q.initiator
  taken : ∃ (r : RegionIx) (c : RegionClass) (k : SlotIx), matchRegion s.regions q.address = some (r, c) ∧
    s.slots[k] = none ∧
    (¬∃ k : SlotIx, ∃ v ∈ s.slots[k], v.initiator ≠ q.initiator ∧
      v.select = (copiedPlace s.regions[r] r c (some s.regions[r].lockLimit) q.address).select ∧
      v.granule = granuleOf (copiedPlace s.regions[r] r c (some s.regions[r].lockLimit) q.address).start) ∧
    u = s.lockTaken q (copiedPlace s.regions[r] r c (some s.regions[r].lockLimit) q.address) s.regions[r].lockLimit k

theorem lockReadCheck_cases {q : Request} {permitted : Bool} {limit : BitVec 10} {pl : Place} :
    Closes s (lockReadCheck q permitted limit pl s) ∨
      (∀ k : SlotIx, ∀ v ∈ s.slots[k], v.initiator ≠ q.initiator) ∧ ∃ k : SlotIx, s.slots[k] = none ∧
        (¬∃ k : SlotIx, ∃ v ∈ s.slots[k], v.initiator ≠ q.initiator ∧ v.select = pl.select ∧ v.granule = granuleOf pl.start) ∧
        lockReadCheck q permitted limit pl s = s.lockTaken q pl limit k := by
  unfold lockReadCheck
  split
  · exact .inl (closes_refuse s _ _ _)
  · split
    · exact .inl (closes_refuse s _ _ _)
    · rename_i hheld
      split
      · exact .inl (.respond s _)
      · rename_i hopen
        split
        · exact .inl (.respond s _)
        · rename_i k hslot
          rw [State.isSome_held_iff] at hheld
          exact .inr ⟨fun l v hv hi => hheld ⟨l, v, hv, hi⟩, k, (State.freeSlot_eq_some_iff.1 hslot).1,
            mt State.granuleTaken_iff.2 hopen, take_lockRead_eq_lockTaken k⟩

theorem addressed_cases (kind : Kind) (q : Request) : Closes s (addressed kind q s) ∨ TakesLock q s (addressed kind q s) := by
  unfold addressed
  split
  · exact .inl (.after (.raise _ _) (closes_refuse s _ _ _))
  · rename_i r c hmatch
    simp only
    split
    · exact .inl (closes_refuse s _ _ _)
    · split
      · exact .inl (closes_refuse s _ _ _)
      · split
        · exact .inl (.respond s _)
        · split
          · exact .inl (closes_plainLockCheck s _ _ _)
          · exact .inl (closes_plainLockCheck s _ _ _)
          · obtain h | ⟨hfree, k, hslot, hopen, h⟩ := lockReadCheck_cases s (q := q) (permitted := s.regions[r].lock)
              (limit := s.regions[r].lockLimit)
              (pl := copiedPlace s.regions[r] r c (some s.regions[r].lockLimit) q.address)
            · exact .inl h
            · exact .inr ⟨hfree, r, c, k, hmatch, hslot, hopen, h⟩
          · exact .inl (closes_lockWriteCheck s _ _)
          · exact .inl (closes_take s _ _ _)

/-- A request only closes, but for a LOCK-READ that takes its reservation. -/
theorem accept_cases (kind : Kind) (q : Request) : Closes s (accept kind q s) ∨ TakesLock q s (accept kind q s) := by
  unfold accept
  split
  · exact .inl (.respond s _)
  · split
    · exact .inl (.raise s _)
    · split
      · exact .inl (closes_refuse s _ _ _)
      · split
        · exact .inl (closes_take s _ _ _)
        all_goals exact addressed_cases s _ q

end

end Sys2Proof.Machine
end

section
/-! SUPPORT. What strands give a read, entry by entry; the outcomes of a grant, case by case; and the statement about exclusive
locks. -/

namespace Sys2Proof.Machine

/-! ## The grant -/

section
variable {s u : State}

/-- An entry changes so that its strand timer is at its limit only if one of `s` there was. -/
theorem Closes.then_setEntry (h : Closes s u) {e : EntryIx} {x : Option CaptureEntry}
    (hx : ∀ c ∈ x, ∀ n : Nat, c.state = .stranded n (some 0) → s.due (.strand e) = true) : Closes s (u.setEntry e x) where
  due T hT := by
    cases T with
    | strand d =>
      obtain ⟨c, hc, n, hzero⟩ := State.due_strand_iff.1 hT
      rw [State.entries_setEntry] at hc
      split at hc
      · rename_i hde
        exact hde ▸ hx c hc n hzero
      · exact h.due _ (State.due_strand_iff.2 ⟨c, hc, n, hzero⟩)
    | _ => exact h.due _ hT
  slots := h.slots
  flags := h.flags
  limit := h.limit

/-- Taking beats from a strand leaves its timer. -/
theorem Closes.then_consume (h : Closes s u) {t : Taken} (ht : s.entries[t.entry] = some t.strand) :
    Closes s (consume t u) := by
  unfold consume
  split
  · exact h.then_setEntry fun _ hc => nomatch hc
  · refine h.then_setEntry fun c hc n hzero => State.due_strand_iff.2 ⟨t.strand, ht, n, ?_⟩
    obtain rfl := Option.some_inj.1 hc
    exact hzero

theorem Closes.then_consumeAll {ts : List Taken} (hts : ∀ t ∈ ts, s.entries[t.entry] = some t.strand) (h : Closes s u) :
    Closes s (consumeAll ts u) := by
  induction ts generalizing u with
  | nil => exact h
  | cons t ts ih =>
    exact ih (fun x hx => hts x (List.mem_cons_of_mem _ hx)) (h.then_consume (hts t List.mem_cons_self))

/-- What is taken is taken from an entry of the list. -/
theorem mem_takeFrom {need : Nat} {xs : List Numbered} {t : Taken} (h : t ∈ takeFrom need xs) :
    (t.entry, t.strand) ∈ xs ∧ ∃ n, 0 < n ∧ t.beats = t.strand.beats.take n := by
  induction xs generalizing need with
  | nil => cases h
  | cons x xs ih =>
    rw [takeFrom] at h
    split at h
    · cases h
    · rename_i hneed
      obtain rfl | h := List.mem_cons.1 h
      · exact ⟨List.mem_cons_self, need, Nat.pos_of_ne_zero hneed, rfl⟩
      · obtain ⟨hmem, htaken⟩ := ih h
        exact ⟨List.mem_cons_of_mem _ hmem, htaken⟩

theorem mem_insertBy {key : CaptureEntry → Nat} {x y : Numbered} {es : List Numbered} :
    y ∈ insertBy key x es ↔ y = x ∨ y ∈ es := by
  induction es with
  | nil => simp [insertBy]
  | cons z zs ih =>
    rw [insertBy]
    split
    · simp
    · simp only [List.mem_cons, ih]
      tauto

theorem mem_sortBy {key : CaptureEntry → Nat} {y : Numbered} {es : List Numbered} : y ∈ sortBy key es ↔ y ∈ es := by
  induction es with
  | nil => rfl
  | cons x xs ih =>
    change y ∈ insertBy key x (sortBy key xs) ↔ _
    rw [mem_insertBy, ih, List.mem_cons]

theorem State.mem_strandsUnder_iff {pl : Place} {size : BeatSize} {count : Nat} {x : Numbered} :
    x ∈ s.strandsUnder pl size count ↔ s.entries[x.1] = some x.2 ∧ x.2.isStrand = true ∧ x.2.select = pl.select ∧
      ∃ a ∈ s.heldRange x.2, a ∈ footprint pl size count := by
  rw [State.strandsUnder, List.mem_filter, State.strands, State.mem_entriesWhere, Bool.and_eq_true, decide_eq_true_eq,
    overlap_iff, and_assoc]

theorem State.mem_compatible_iff {pl : Place} {size : BeatSize} {count : Nat} {x : Numbered} :
    x ∈ s.compatible pl size count ↔
      x ∈ s.strandsUnder pl size count ∧ x.2.mode = pl.mode ∧ x.2.size = size ∧ x.2.start = pl.start := by
  rw [State.compatible, mem_sortBy, List.mem_filter]
  simp [agrees, and_assoc]

theorem mem_consumption {pl : Place} {size : BeatSize} {count : Nat} {t : Taken} (h : t ∈ s.consumption pl size count) :
    (t.entry, t.strand) ∈ s.compatible pl size count ∧ ∃ n, 0 < n ∧ t.beats = t.strand.beats.take n := by
  unfold State.consumption at h
  split at h
  · exact mem_takeFrom h
  · obtain ⟨hmem, htaken⟩ := mem_takeFrom h
    exact ⟨List.mem_of_mem_take hmem, htaken⟩

theorem entries_of_mem_consumption {pl : Place} {size : BeatSize} {count : Nat} {t : Taken}
    (h : t ∈ s.consumption pl size count) : s.entries[t.entry] = some t.strand :=
  (State.mem_strandsUnder_iff.1 (State.mem_compatible_iff.1 (mem_consumption h).1).1).1

theorem closes_consumption (pl : Place) (size : BeatSize) (count : Nat) :
    Closes s (consumeAll (s.consumption pl size count) s) :=
  .then_consumeAll (fun _ => entries_of_mem_consumption) (.refl s)

theorem closes_refuseMismatch {p : Pair} {r w : TagRecord} (hw : s.tag p = some w) (htimer : r.timer = w.timer)
    (hverdict : r.verdict = w.verdict) (pl : Place) (against : List Numbered) : Closes s (refuseMismatch p r pl against s) :=
  .after (.raise _ _) (.after (closes_releaseIfFinished _ p) (.after (.respond _ _) (.setTag_some hw htimer hverdict)))

theorem closes_servedWholly {p : Pair} {r w : TagRecord} (hw : s.tag p = some w) (htimer : r.timer = w.timer)
    (hverdict : r.verdict = w.verdict) (beats : List Word) : Closes s (servedWholly p r beats s) :=
  .after (closes_releaseIfFinished _ p) (.after (.respond _ _) (.setTag_some hw htimer hverdict))

theorem closes_giveEntry {e : EntryIx} {c : CaptureEntry} (h : c.isStrand = false) : Closes s (giveEntry e c s) :=
  (Closes.setEntry_some h).trans (.of_same rfl rfl rfl rfl rfl rfl)

theorem tag_giveEntry {e : EntryIx} {c : CaptureEntry} (p : Pair) : (giveEntry e c s).tag p = s.tag p := rfl

/-- A grant's own work, case by case: `s` is the state before it, `x` the record ISSUED, `g` the state in which the work begins,
`taken` what strands give the read and `v` the state that taking it leaves. -/
inductive Grants (p : Pair) (r : TagRecord) (pl : Place) (s : State) : State → Prop
  | opens (hguarded : ¬IsGuarded r pl) :
    Grants p r pl s (openAccess p { r with position := .issued } pl 0 none (s.granted p r))
  | refuses (hguarded : IsGuarded r pl) (hconflict : s.conflicts pl r.size r.count ≠ []) :
    Grants p r pl s (refuseMismatch p { r with position := .issued } pl (s.conflicts pl r.size r.count) (s.granted p r))
  | served (v : State) (hguarded : IsGuarded r pl) (hagree : NoConflict s r pl)
    (hv : v = consumeAll (s.consumption pl r.size r.count) (s.granted p r))
    (hserved : r.count ≤ (takenBeats (s.consumption pl r.size r.count)).length) (hverdict : r.verdict = .committed) :
    Grants p r pl s (servedWholly p { r with position := .issued } (takenBeats (s.consumption pl r.size r.count)) v)
  | full (v : State) (hguarded : IsGuarded r pl) (hagree : NoConflict s r pl)
    (hv : v = consumeAll (s.consumption pl r.size r.count) (s.granted p r)) (hfull : v.lowestFree = none) : Grants p r pl s v
  | captures (v : State) (e : EntryIx) (hguarded : IsGuarded r pl) (hagree : NoConflict s r pl)
    (hv : v = consumeAll (s.consumption pl r.size r.count) (s.granted p r)) (hfree : v.lowestFree = some e)
    (hserved : r.count ≤ (takenBeats (s.consumption pl r.size r.count)).length) (hverdict : r.verdict = .none) :
    Grants p r pl s (servedWholly p { r with position := .issued, entry := some e }
      (takenBeats (s.consumption pl r.size r.count))
      (giveEntry e (allocated r pl (takenBeats (s.consumption pl r.size r.count)) (.captured p) v) v))
  | fills (v : State) (e : EntryIx) (hguarded : IsGuarded r pl) (hagree : NoConflict s r pl)
    (hv : v = consumeAll (s.consumption pl r.size r.count) (s.granted p r)) (hfree : v.lowestFree = some e)
    (hleft : (takenBeats (s.consumption pl r.size r.count)).length < r.count) :
    Grants p r pl s (openAccess p { r with position := .issued, entry := some e } pl
      (takenBeats (s.consumption pl r.size r.count)).length (some e)
      ((giveEntry e (allocated r pl (takenBeats (s.consumption pl r.size r.count))
        (.filling (some p) (r.count - (takenBeats (s.consumption pl r.size r.count)).length)) v) v).setTag p
          (some { r with position := .issued, entry := some e })))

theorem grants_grantRecord (s : State) (p : Pair) (r : TagRecord) (pl : Place) : Grants p r pl s (grantRecord p r pl s) := by
  by_cases hguarded : IsGuarded r pl
  · rw [grantRecord_of_guarded hguarded]
    by_cases hagree : NoConflict s r pl
    · have none_against : (s.granted p r).conflicts pl r.size r.count = [] :=
        conflicts_eq_nil_iff.2 ((noConflict_granted s p r pl).2 hagree)
      have same : (s.granted p r).consumption pl r.size r.count = s.consumption pl r.size r.count :=
        consumption_granted s p r pl r.size r.count
      obtain ⟨v, hv⟩ : ∃ v, v = consumeAll (s.consumption pl r.size r.count) (s.granted p r) := ⟨_, rfl⟩
      have fold : (s.consumption pl r.size r.count).foldl (fun w t => consume t w) (s.granted p r) = v := hv.symm
      simp only [grantGuarded, none_against, same, fold, ne_eq, not_true_eq_false, if_false]
      split
      · rename_i hserved
        exact .served v hguarded hagree hv hserved.1 hserved.2
      · rename_i hserved
        split
        · rename_i hfull
          exact .full v hguarded hagree hv hfull
        · rename_i e hfree
          split
          · rename_i hcount
            refine .captures v e hguarded hagree hv hfree hcount ?_
            cases hverdict : r.verdict with
            | none => rfl
            | committed => exact absurd ⟨hcount, hverdict⟩ hserved
          · rename_i hcount
            exact .fills v e hguarded hagree hv hfree (Nat.lt_of_not_le hcount)
    · have hconflict : s.conflicts pl r.size r.count ≠ [] := fun h => hagree (conflicts_eq_nil_iff.1 h)
      have refused : grantGuarded p { r with position := .issued } pl (s.granted p r) =
          refuseMismatch p { r with position := .issued } pl (s.conflicts pl r.size r.count) (s.granted p r) :=
        grantGuarded_of_conflict hconflict
      rw [refused]
      exact .refuses hguarded hconflict
  · have plain : grantRecord p r pl s = openAccess p { r with position := .issued } pl 0 none (s.granted p r) :=
      if_neg (mt TagRecord.guarded_iff.1 hguarded)
    rw [plain]
    exact .opens hguarded

/-- The record of a granted pair stays with its verdict and timer. -/
theorem closes_granted {p : Pair} {r : TagRecord} (hr : s.tag p = some r) : Closes s (s.granted p r) :=
  .after (.of_same (s := s.setTag p (some { r with position := .issued })) rfl rfl rfl rfl rfl rfl)
    (.setTag_some hr rfl rfl)

theorem tag_consumeAll_granted {p : Pair} {r : TagRecord} (ts : List Taken) :
    (consumeAll ts (s.granted p r)).tag p = some { r with position := .issued } := by
  obtain ⟨es, h⟩ := consumeAll_only (s.granted p r) ts
  rw [h]
  exact State.tag_setTag_self ..

theorem closes_consumeAll_granted {p : Pair} {r : TagRecord} (hr : s.tag p = some r) (pl : Place) (size : BeatSize)
    (count : Nat) : Closes s (consumeAll (s.consumption pl size count) (s.granted p r)) :=
  (closes_granted hr).trans (closes_consumption pl size count)

/-- A grant only closes, or opens its access after that. -/
theorem closes_grantRecord {p : Pair} {r : TagRecord} {pl : Place} (hr : s.tag p = some r) (h : Grants p r pl s u) :
    Closes s u ∨ ∃ v x first e, Closes s v ∧ v.waitLimits = s.waitLimits ∧ u = openAccess p x pl first e v := by
  have taken := closes_consumeAll_granted hr pl r.size r.count
  have live := tag_consumeAll_granted (s := s) (p := p) (r := r) (s.consumption pl r.size r.count)
  have limits : (consumeAll (s.consumption pl r.size r.count) (s.granted p r)).waitLimits = s.waitLimits := by
    obtain ⟨es, h⟩ := consumeAll_only (s.granted p r) (s.consumption pl r.size r.count)
    rw [h]
    rfl
  cases h with
  | opens => exact .inr ⟨_, _, _, _, closes_granted hr, rfl, rfl⟩
  | refuses =>
    have issued : (s.granted p r).tag p = some { r with position := .issued } := State.tag_setTag_self ..
    exact .inl (.after (closes_refuseMismatch issued rfl rfl pl _) (closes_granted hr))
  | served v _ _ hv =>
    rw [← hv] at taken live
    exact .inl (taken.trans (closes_servedWholly live rfl rfl _))
  | full v _ _ hv =>
    rw [← hv] at taken
    exact .inl taken
  | captures v e _ _ hv =>
    rw [← hv] at taken live
    have given := taken.trans (closes_giveEntry (s := v) (e := e)
      (c := allocated r pl (takenBeats (s.consumption pl r.size r.count)) (.captured p) v) rfl)
    exact .inl (given.trans (closes_servedWholly (r := { r with position := .issued, entry := some e })
      (w := { r with position := .issued }) ((tag_giveEntry p).trans live) rfl rfl _))
  | fills v e _ _ hv =>
    rw [← hv] at taken live limits
    have given := taken.trans (closes_giveEntry (s := v) (e := e)
      (c := allocated r pl (takenBeats (s.consumption pl r.size r.count))
        (.filling (some p) (r.count - (takenBeats (s.consumption pl r.size r.count)).length)) v) rfl)
    exact .inr ⟨_, _, _, _, given.trans (.setTag_some (r := { r with position := .issued, entry := some e })
      (w := { r with position := .issued }) ((tag_giveEntry p).trans live) rfl rfl), limits, rfl⟩

end

/-! ## Exclusive locks (R128, R130) -/

section
variable {s u : State}

/-- Fewer reservations, with their keys, and fewer flags. -/
theorem LockLaw.of_less (hlaw : LockLaw s) (hslots : ∀ k : SlotIx, ∀ v ∈ u.slots[k], ∃ w ∈ s.slots[k], w.key = v.key)
    (hflags : ∀ i : Initiator, u.lockLost[i] = true → s.lockLost[i] = true) : LockLaw u := by
  obtain ⟨hdistinct, hclear⟩ := hlaw
  refine ⟨fun k l hkl v hv x hx => ?_, fun k v hv => ?_⟩
  · obtain ⟨w, hw, hkey⟩ := hslots k v hv
    obtain ⟨y, hy, hkey'⟩ := hslots l x hx
    simp only [Reservation.key, Prod.mk.injEq] at hkey hkey'
    have apart := hdistinct k l hkl w hw y hy
    rwa [hkey.1, hkey.2.1, hkey.2.2.1, hkey'.1, hkey'.2.1, hkey'.2.2.1] at apart
  · obtain ⟨w, hw, hkey⟩ := hslots k v hv
    simp only [Reservation.key, Prod.mk.injEq] at hkey
    have clear : s.lockLost[v.initiator] = false := by simp only [← hkey.1, hclear k w hw]
    exact Bool.eq_false_iff.2 fun hset => absurd (hflags _ hset) (by simp [clear])

theorem LockLaw.of_closes (hlaw : LockLaw s) (h : Closes s u) : LockLaw u := hlaw.of_less h.slots h.flags

theorem LockLaw.of_same (hlaw : LockLaw s) (hslots : u.slots = s.slots) (hflags : u.lockLost = s.lockLost) : LockLaw u :=
  hlaw.of_less (fun _ v hv => ⟨v, by rwa [← hslots], rfl⟩) fun _ hi => by rwa [← hflags]

/-- A reservation of an initiator that holds none, on a granule that no other has, with the flag clear. -/
theorem LockLaw.setSlot (hlaw : LockLaw s) {k : SlotIx} {v : Reservation} (hinit : ∀ l : SlotIx, ∀ w ∈ s.slots[l],
      w.initiator ≠ v.initiator) (hgranule : ∀ l : SlotIx, ∀ w ∈ s.slots[l], ¬(w.select = v.select ∧ w.granule = v.granule))
    (hslots : ∀ l : SlotIx, u.slots[l] = if l = k then some v else s.slots[l])
    (hflags : ∀ i : Initiator, u.lockLost[i] = if i = v.initiator then false else s.lockLost[i]) : LockLaw u := by
  obtain ⟨hdistinct, hclear⟩ := hlaw
  have cases_of {l : SlotIx} {x : Reservation} (hx : x ∈ u.slots[l]) : l = k ∧ x = v ∨ l ≠ k ∧ x ∈ s.slots[l] := by
    rw [hslots] at hx
    split at hx
    · exact .inl ⟨‹_›, (Option.some_inj.1 hx).symm⟩
    · exact .inr ⟨‹_›, hx⟩
  refine ⟨fun l m hlm x hx y hy => ?_, fun l x hx => ?_⟩
  · obtain ⟨rfl, rfl⟩ | ⟨hl, hx⟩ := cases_of hx
    · obtain ⟨rfl, rfl⟩ | ⟨hm, hy⟩ := cases_of hy
      · exact absurd rfl hlm
      · exact ⟨(hinit m y hy).symm, fun h => hgranule m y hy ⟨h.1.symm, h.2.symm⟩⟩
    · obtain ⟨rfl, rfl⟩ | ⟨hm, hy⟩ := cases_of hy
      · exact ⟨hinit l x hx, hgranule l x hx⟩
      · exact hdistinct l m hlm x hx y hy
  · rw [hflags]
    split
    · rfl
    · rename_i hne
      obtain ⟨rfl, rfl⟩ | ⟨hl, hx⟩ := cases_of hx
      · exact absurd rfl hne
      · exact hclear l x hx

theorem TakesLock.lockLaw {q : Request} (hlaw : LockLaw s) (h : TakesLock q s u) : LockLaw u := by
  obtain ⟨hheld, r, c, k, -, hfree, hopen, rfl⟩ := h
  exact hlaw.setSlot (k := k) (v := { initiator := q.initiator, select := _, granule := _, region := _, state := _
                                      lockRead := some q.tag })
    hheld (fun l w hw hsame => hopen ⟨l, w, hw, hheld l w hw, hsame⟩) (fun l => State.slots_setSlot _ k l _)
    fun i => State.lockLost_setLockLost _ q.initiator i false

/-- A broken reservation goes, and its initiator, whose flag is set, holds no other. -/
theorem LockLaw.lockFreed (hlaw : LockLaw s) {k : SlotIx} {v : Reservation} (hv : s.slots[k] = some v) :
    LockLaw (s.lockFreed k v.initiator) := by
  obtain ⟨hdistinct, hclear⟩ := hlaw
  have kept {l : SlotIx} {x : Reservation} (hx : x ∈ (s.lockFreed k v.initiator).slots[l]) : l ≠ k ∧ x ∈ s.slots[l] := by
    change x ∈ (s.setSlot k none).slots[l] at hx
    rw [State.slots_setSlot] at hx
    split at hx
    · cases hx
    · exact ⟨‹_›, hx⟩
  refine ⟨fun l m hlm x hx y hy => hdistinct l m hlm x (kept hx).2 y (kept hy).2, fun l x hx => ?_⟩
  obtain ⟨hl, hx⟩ := kept hx
  change ((s.setSlot k none).setLockLost v.initiator true).lockLost[x.initiator] = false
  rw [State.lockLost_setLockLost, if_neg (hdistinct l k hl x hx v hv).1]
  exact hclear l x hx

theorem LockLaw.breakReservation (hlaw : LockLaw s) {k : SlotIx} {v : Reservation} (hv : s.slots[k] = some v) (cause : Nat) :
    LockLaw (breakReservation k v cause s) := by
  have freed := hlaw.lockFreed hv
  unfold Machine.breakReservation
  simp only
  split
  · exact freed.of_same rfl rfl
  · split
    · exact freed.of_same rfl rfl
    · exact freed.of_same rfl rfl

end

end Sys2Proof.Machine
end

section
/-! SUPPORT. What an effect of a command can open, set or bring to its limit, case by case; what a tick counts; and the
statement about exclusive locks. -/

namespace Sys2Proof.Machine

section
variable {s u : State}

/-! ## The host-link reset -/

theorem slots_resetLocks (s : State) (k : SlotIx) : (resetLocks s).slots[k] = (s.slots[k]).bind (resetReservation s) := by
  obtain ⟨k, hk⟩ := k
  obtain rfl | rfl | rfl | rfl : k = 0 ∨ k = 1 ∨ k = 2 ∨ k = 3 := by omega
  all_goals rfl

/-- A reservation that a host-link reset keeps has only lost its lock-read record (R143). -/
theorem resetReservation_eq_some {v w : Reservation} (h : resetReservation s v = some w) :
    w = { v with lockRead := none } ∧ ∃ t, v.state = .writing t ∧
      ((s.tag ⟨v.initiator, t⟩).any fun r => decide (r.kind = .lockWrite)) = true := by
  unfold resetReservation at h
  split at h
  · cases h
  · rename_i t hstate
    split at h
    · rename_i hlive
      exact ⟨(Option.some_inj.1 h).symm, t, hstate, hlive⟩
    · cases h

theorem closes_resetLocks (s : State) : Closes s (resetLocks s) where
  due T hT := by
    cases T with
    | lock k =>
      obtain ⟨v, hv, hzero⟩ := State.due_lock_iff.1 hT
      rw [slots_resetLocks] at hv
      obtain ⟨w, -, hw⟩ := Option.bind_eq_some_iff.1 hv
      obtain ⟨rfl, t, hstate, -⟩ := resetReservation_eq_some hw
      cases hstate.symm.trans hzero
    | _ => exact hT
  slots k v hv := by
    rw [slots_resetLocks] at hv
    obtain ⟨w, hw, hkept⟩ := Option.bind_eq_some_iff.1 hv
    obtain ⟨rfl, -⟩ := resetReservation_eq_some hkept
    exact ⟨w, hw, rfl⟩
  flags i hi := by
    change (Vector.replicate 8 false)[i] = true at hi
    simp at hi
  limit a ha := ⟨a, ha, rfl⟩

theorem closes_markAll (s : State) : Closes s (markAll s) := by
  refine .foldl (fun t p => ?_) allPairs s
  unfold markSent
  split
  · rename_i r hr
    exact .setTag_some hr rfl rfl
  · exact .refl t

theorem closes_resetTables (s : State) : Closes s (resetTables s) := by
  have dropped : Closes s s.resetDropped :=
    .after (.foldl (fun t p => .after (closes_endAccessOf _ p) (.setTag_none t p)) _ _) (closes_strandAll s _)
  rw [resetTables_eq]
  exact .after (closes_resetLocks _) (.after (closes_markAll _) dropped)

/-! ## The effects -/

theorem closes_abandon (p : Pair) (r : TagRecord) (s : State) : Closes s (abandon p r s) := by
  unfold abandon
  split
  · exact .refl s
  · split <;> exact .respond s _

/-- What an effect can open, set or take: a LOCK-READ its reservation, a broken reservation the flag of its initiator, and a
grant its access. Every other effect only closes. -/
inductive Widens (s u : State) : Prop
  | closes (h : Closes s u)
  | takes (q : Request) (h : TakesLock q s u)
  | breaks (k : SlotIx) (v : Reservation) (cause : Nat) (hv : s.slots[k] = some v) (hu : u = breakReservation k v cause s)
  | opens (v : State) (p : Pair) (r : TagRecord) (pl : Place) (first : Nat) (e : Option EntryIx) (h : Closes s v)
    (hlimits : v.waitLimits = s.waitLimits) (hu : u = openAccess p r pl first e v)

theorem Effect.widens {c : Instr} (h : Effect c s u) : Widens s u := by
  cases h with
  | reset => exact .closes ((closes_resetTables s).trans (.raise _ _))
  | request kind q => exact (accept_cases s kind q).elim .closes (.takes q)
  | commit p r _ hr =>
    refine .closes (.after (closes_releaseIfFinished _ p) (.setTag s p _ fun x hx hzero => ?_))
    obtain rfl := Option.some_inj.1 hx
    cases hzero
  | kill p => exact .closes (closes_removeRecords s [p])
  | flush p r => exact .closes (closes_removeRecords s _)
  | verdictExpiry p r =>
    exact .closes (.after (.raise _ _) (.after (closes_removeRecords _ [p]) (closes_abandon p r s)))
  | strandExpiry e => exact .closes ((Closes.setEntry_none s e).trans (.raise _ _))
  | lockBroken k v n cause _ hv => exact .breaks k v cause hv rfl
  | ready a f lines _ ha => exact .closes (closes_beatReady s ha f.beat lines)
  | failure a f timeout => exact .closes (closes_beatFails s a f.beat timeout)
  | drained => exact .closes (closes_completeDrain s)
  | grant p r pl _ _ _ hr =>
    obtain h | ⟨v, x, first, e, hclosed, hlimits, h⟩ := closes_grantRecord hr (grants_grantRecord s p r pl)
    · exact .closes h
    · exact .opens v p x pl first e hclosed hlimits h
  | unlock i p => exact .closes (closes_performUnlock s p)
  | change index r => exact .closes (closes_makeChange s r)
  | discard => exact .closes (closes_discard s _ _)

theorem Widens.lockLaw (h : Widens s u) (hlaw : LockLaw s) : LockLaw u := by
  cases h with
  | closes h => exact hlaw.of_closes h
  | takes q h => exact h.lockLaw hlaw
  | breaks k v cause hv hu => exact hu ▸ hlaw.breakReservation hv cause
  | opens v p r pl first e h _ hu => exact hu ▸ (hlaw.of_closes h).of_same rfl rfl

/-! ## What a tick counts (R187, R188) -/

theorem getElem_mapTable {α β : Type} {n : Nat} (f : α → β) (v : Vector α n) (i : Fin n) : (mapTable f v)[i] = f v[i] := by
  simp [mapTable]

theorem tag_countTick (p : Pair) : (countTick s).tag p = (s.tag p).map TagRecord.tick := by
  change (mapTable (mapTable (Option.map TagRecord.tick)) s.tags)[p.initiator][p.tag] = _
  rw [getElem_mapTable, getElem_mapTable]
  rfl

theorem entries_countTick (e : EntryIx) : (countTick s).entries[e] = (s.entries[e]).map CaptureEntry.tick :=
  getElem_mapTable _ s.entries e

theorem slots_countTick (k : SlotIx) : (countTick s).slots[k] = (s.slots[k]).map Reservation.tick :=
  getElem_mapTable _ s.slots k

theorem key_tick (v : Reservation) : v.tick.key = v.key := by
  unfold Reservation.tick
  split <;> rfl

theorem lockLaw_countTick (hlaw : LockLaw s) : LockLaw (countTick s) := by
  refine hlaw.of_less (fun k v hv => ?_) fun i hi => hi
  rw [slots_countTick] at hv
  obtain ⟨w, hw, rfl⟩ := Option.map_eq_some_iff.1 hv
  exact ⟨w, hw, (key_tick w).symm⟩

/-! ## What every step keeps because each effect does -/

/-- What each own effect, the rest of an event and the end of a drain keep, an expiry keeps. -/
theorem Expiry.keeps {P : State → Prop} (heffect : ∀ {c s u}, Effect c s u → P s → P (settle s u))
    (hidle : ∀ {s} (r : RegionIx) (e : EventRecord), s.apply = .draining r 0 → P s →
      P (({ s with apply := .idle } : State).raise e))
    {T : Timer} (h : Expiry T s u) (hs : P s) : P u := by
  cases h with
  | stays => exact hs
  | settles v hv => exact heffect hv hs
  | drain r e _ hdue => exact hidle r e hdue hs

/-- A tick keeps what its counting and the expiries keep. -/
theorem expireAll_keeps {P : State → Prop} (hexpiry : ∀ {T s u}, Expiry T s u → P s → P u) (Ts : List Timer) (hs : P s) :
    P (expireAll Ts s) := by
  rw [expireAll_eq_foldl]
  exact foldl_related (R := fun s t => P s → P t) (fun _ => id) (fun h k => k ∘ h)
    (fun _ T => hexpiry (expiry_expire T)) Ts s hs

/-- A step keeps what each thing that a command does keeps, and what does not see the port and what waits. -/
theorem step_keeps {P : State → Prop} (hacts : ∀ {c s u}, Acts c s u → P s → P u)
    (hwait : ∀ {s : State} {p d q}, P s → P { s with port := p, dataIn := d, pending := q })
    (h : step s = .next u) (hs : P s) : P u := by
  obtain ⟨p, d, rfl⟩ | ⟨c, d, q, w, p, hw, rfl, -⟩ := step_does h
  · exact hwait hs
  · exact hwait (d := w.dataIn) (q := w.pending) (hacts hw (hwait (p := s.port) hs))

theorem Acts.lockLaw {c : Instr} (h : Acts c s u) (hlaw : LockLaw s) : LockLaw u := by
  have effect {c : Instr} {s u : State} (h : Effect c s u) (hs : LockLaw s) : LockLaw (settle s u) :=
    (h.widens.lockLaw hs).of_closes (closes_settle s u)
  cases h with
  | powered b => exact (lawful_poweredOn b s).1
  | ticked => exact expireAll_keeps (Expiry.keeps effect fun _ _ _ hs => hs) _ (lockLaw_countTick hlaw)
  | settles v hv => exact effect hv hlaw
  | fails h body f => cases f <;> exact hlaw
  | _ => exact hlaw

/-- Settles O58: a reservation comes only to an initiator that holds none, on a granule that is free, with the flag cleared;
and a flag is set only of an initiator whose reservation goes. -/
theorem locksStayExclusive : Obligations.LocksStayExclusive := fun _ _ hlaw hstep =>
  step_keeps Acts.lockLaw (fun h => h) hstep hlaw

end

end Sys2Proof.Machine
end

section
/-! SUPPORT. The event queue only grows, at its young end and to 16 records at most; the region table changes by a valid
staging record, an image or the fallback table; and the statement about both. -/

namespace Sys2Proof.Machine

/-! ## What leaves the regions and only adds records -/

section
variable {s t u : State}

/-- The event queue of `u` has that of `s` at its old end, and keeps within 16 records. -/
structure QueueGrows (s u : State) : Prop where
  older : s.events <+: u.events
  short : s.events.length ≤ 16 → u.events.length ≤ 16

namespace QueueGrows

theorem of_same (h : u.events = s.events) : QueueGrows s u :=
  ⟨h ▸ List.prefix_rfl, fun hs => h ▸ hs⟩

theorem trans (h : QueueGrows s t) (k : QueueGrows t u) : QueueGrows s u :=
  ⟨h.older.trans k.older, fun hs => k.short (h.short hs)⟩

theorem raise (s : State) (e : EventRecord) : QueueGrows s (s.raise e) := by
  by_cases room : s.events.length < 16
  · rw [State.raise_of_room e room]
    refine ⟨List.prefix_append _ _, fun _ => ?_⟩
    change (s.events ++ [_]).length ≤ 16
    rw [List.length_append]
    exact room
  · rw [State.raise_of_full e (Nat.not_lt.1 room)]
    exact of_same rfl

theorem then_raise (h : QueueGrows s u) (e : EventRecord) : QueueGrows s (u.raise e) := h.trans (raise u e)

theorem discard (h : QueueGrows s u) (es : List Numbered) (e : EventRecord) : QueueGrows s (discard es e u) := by
  unfold Machine.discard
  split
  · exact h
  · obtain ⟨_, hfreed⟩ := freeEntries_only es u
    rw [hfreed]
    refine then_raise ?_ _
    exact ⟨h.older, h.short⟩

end QueueGrows

/-- The regions, the apply state and the staging record are as they were, and the queue only grows. -/
structure Quiet (s u : State) : Prop where
  queue : QueueGrows s u
  regions : u.regions = s.regions
  apply : u.apply = s.apply
  staging : u.staging = s.staging

namespace Quiet

theorem of_same (hevents : u.events = s.events) (hregions : u.regions = s.regions) (happly : u.apply = s.apply)
    (hstaging : u.staging = s.staging) : Quiet s u := ⟨.of_same hevents, hregions, happly, hstaging⟩

theorem raise (h : Quiet s u) (e : EventRecord) : Quiet s (u.raise e) :=
  ⟨h.queue.trans (.raise u e), h.regions, h.apply, h.staging⟩

/-- A later change of other fields. -/
theorem with_same (h : Quiet s t) (hevents : u.events = t.events) (hregions : u.regions = t.regions)
    (happly : u.apply = t.apply) (hstaging : u.staging = t.staging) : Quiet s u :=
  ⟨h.queue.trans (.of_same hevents), hregions.trans h.regions, happly.trans h.apply, hstaging.trans h.staging⟩

end Quiet

theorem quiet_refuse (s : State) (kind : Kind) (q : Request) (status : Status) : Quiet s (refuse kind q status s) := by
  obtain ⟨_, _, _, h⟩ := refuse_only s kind q status
  rw [h]
  exact .of_same rfl rfl rfl rfl

theorem quiet_take (s : State) (kind : Kind) (q : Request) (pl : Option Place) : Quiet s (take kind q pl s) := by
  obtain ⟨_, _, _, h⟩ := take_only s kind q pl
  rw [h]
  exact .of_same rfl rfl rfl rfl

theorem quiet_plainLockCheck (s : State) (kind : Kind) (q : Request) (pl : Place) : Quiet s (plainLockCheck kind q pl s) := by
  obtain ⟨_, _, _, h⟩ := plainLockCheck_only s kind q pl
  rw [h]
  exact .of_same rfl rfl rfl rfl

theorem quiet_addressed (s : State) (kind : Kind) (q : Request) : Quiet s (addressed kind q s) := by
  unfold addressed
  split
  · exact (quiet_refuse s kind q .unmapped).raise _
  · simp only
    split
    · exact quiet_refuse s _ _ _
    · split
      · exact quiet_refuse s _ _ _
      · split
        · exact .of_same rfl rfl rfl rfl
        · split
          · exact quiet_plainLockCheck s _ _ _
          · exact quiet_plainLockCheck s _ _ _
          · obtain ⟨_, _, _, _, _, h⟩ := lockReadCheck_only s q _ _ _
            rw [h]
            exact .of_same rfl rfl rfl rfl
          · obtain ⟨_, _, _, _, _, h⟩ := lockWriteCheck_only s q _
            rw [h]
            exact .of_same rfl rfl rfl rfl
          · exact quiet_take s _ _ _

theorem quiet_accept (s : State) (kind : Kind) (q : Request) : Quiet s (accept kind q s) := by
  unfold accept
  split
  · exact .of_same rfl rfl rfl rfl
  · split
    · exact (Quiet.of_same rfl rfl rfl rfl).raise _
    · split
      · exact quiet_refuse s _ _ _
      · split
        · exact quiet_take s _ _ _
        all_goals exact quiet_addressed s _ q

theorem quiet_refuseMismatch (h : Quiet s u) (p : Pair) (r : TagRecord) (pl : Place) (against : List Numbered) :
    Quiet s (refuseMismatch p r pl against u) := by
  obtain ⟨_, _, _, hreleased⟩ := releaseIfFinished_only p
    ((u.setTag p (some { r with position := .done, response := .sent })).respond (.error p .mismatch))
  rw [refuseMismatch, hreleased]
  refine Quiet.raise ?_ _
  exact h.with_same rfl rfl rfl rfl

theorem quiet_openAccess (h : Quiet s u) (p : Pair) (r : TagRecord) (pl : Place) (first : Nat) (e : Option EntryIx) :
    Quiet s (openAccess p r pl first e u) := h.with_same rfl rfl rfl rfl

theorem quiet_giveEntry (h : Quiet s u) (e : EntryIx) (c : CaptureEntry) : Quiet s (giveEntry e c u) :=
  h.with_same rfl rfl rfl rfl

theorem quiet_setTag (h : Quiet s u) (p : Pair) (r : Option TagRecord) : Quiet s (u.setTag p r) :=
  h.with_same rfl rfl rfl rfl

theorem quiet_granted (s : State) (p : Pair) (r : TagRecord) : Quiet s (s.granted p r) := .of_same rfl rfl rfl rfl

theorem quiet_grantRecord (s : State) (p : Pair) (r : TagRecord) (pl : Place) : Quiet s (grantRecord p r pl s) := by
  have taken : Quiet s (consumeAll (s.consumption pl r.size r.count) (s.granted p r)) := by
    obtain ⟨_, h⟩ := consumeAll_only (s.granted p r) (s.consumption pl r.size r.count)
    rw [h]
    exact (quiet_granted s p r).with_same rfl rfl rfl rfl
  have served {v : State} (hv : Quiet s v) (x : TagRecord) (beats : List Word) : Quiet s (servedWholly p x beats v) := by
    obtain ⟨_, _, _, _, h⟩ := servedWholly_only v p x beats
    rw [h]
    exact hv.with_same rfl rfl rfl rfl
  generalize hu : grantRecord p r pl s = u
  have h := grants_grantRecord s p r pl
  rw [hu] at h
  cases h with
  | opens => exact quiet_openAccess (quiet_granted s p r) _ _ _ _ _
  | refuses => exact quiet_refuseMismatch (quiet_granted s p r) p _ pl _
  | served v _ _ hv => exact served (hv ▸ taken) _ _
  | full v _ _ hv => exact hv ▸ taken
  | captures v e _ _ hv =>
    rw [← hv] at taken
    exact served (quiet_giveEntry taken _ _) _ _
  | fills v e _ _ hv =>
    rw [← hv] at taken
    exact quiet_openAccess (quiet_setTag (quiet_giveEntry taken _ _) _ _) _ _ _ _ _

theorem quiet_beatReady (s : State) (a : Access) (b : Nat) (lines : Word) : Quiet s (beatReady a b lines s) := by
  unfold beatReady
  simp only
  split
  · unfold writtenBeat
    split
    · obtain ⟨_, _, _, _, h⟩ := endWrite_only a .ok (s.setAccess none)
      rw [h]
      exact .of_same rfl rfl rfl rfl
    · exact .of_same rfl rfl rfl rfl
  · split
    · unfold readBeat
      split
      · rename_i e _
        split
        · obtain ⟨_, happend⟩ := appendBeat_only e (fromLines a.size (beatAddress a.place a.size b) lines) (s.setAccess none)
          obtain ⟨_, _, _, _, h⟩ := endRead_only a none
            (appendBeat e (fromLines a.size (beatAddress a.place a.size b) lines) (s.setAccess none))
          rw [h, happend]
          exact .of_same rfl rfl rfl rfl
        · obtain ⟨_, h⟩ := appendBeat_only e (fromLines a.size (beatAddress a.place a.size b) lines)
            (s.setAccess (some { a with flight := none }))
          rw [h]
          exact .of_same rfl rfl rfl rfl
      · split
        · obtain ⟨_, _, _, _, h⟩ := endRead_only
            { a with buffer := a.buffer ++ [fromLines a.size (beatAddress a.place a.size b) lines] } none (s.setAccess none)
          rw [h]
          exact .of_same rfl rfl rfl rfl
        · exact .of_same rfl rfl rfl rfl
    · obtain ⟨_, _, h⟩ := endRemoved_only a (some (fromLines a.size (beatAddress a.place a.size b) lines)) (s.setAccess none)
      rw [h]
      exact .of_same rfl rfl rfl rfl

theorem quiet_beatFails (s : State) (a : Access) (b : Nat) (timeout : Bool) : Quiet s (beatFails a b timeout s) := by
  unfold beatFails
  simp only
  split
  · obtain ⟨_, _, _, _, h⟩ := endWrite_only a (failureStatus timeout) (s.setAccess none)
    rw [h]
    refine Quiet.raise ?_ _
    exact .of_same rfl rfl rfl rfl
  · split
    · obtain ⟨_, _, _, _, h⟩ := endRead_only a (some (failureStatus timeout)) (s.setAccess none)
      rw [h]
      refine Quiet.raise ?_ _
      exact .of_same rfl rfl rfl rfl
    · obtain ⟨_, _, h⟩ := endRemoved_only a none (s.setAccess none)
      rw [h]
      refine Quiet.raise ?_ _
      exact .of_same rfl rfl rfl rfl

theorem quiet_breakReservation (s : State) (k : SlotIx) (v : Reservation) (cause : Nat) :
    Quiet s (breakReservation k v cause s) := by
  unfold breakReservation
  simp only
  refine Quiet.raise ?_ _
  split
  · exact .of_same rfl rfl rfl rfl
  · split <;> exact .of_same rfl rfl rfl rfl

theorem quiet_performUnlock (s : State) (p : Pair) : Quiet s (performUnlock p s) := by
  obtain ⟨_, _, _, _, _, h⟩ := performUnlock_only p s
  rw [h]
  exact .of_same rfl rfl rfl rfl

theorem quiet_removeRecords (s : State) (ps : List Pair) : Quiet s (removeRecords ps s) := by
  obtain ⟨_, _, _, _, _, _, h⟩ := removeRecords_only ps s
  rw [h]
  exact .of_same rfl rfl rfl rfl

theorem quiet_discard (s : State) (es : List Numbered) (e : EventRecord) : Quiet s (discard es e s) := by
  have queue := (QueueGrows.of_same (s := s) rfl).discard es e
  obtain ⟨_, _, _, h⟩ := discard_only es e s
  rw [h] at queue ⊢
  exact ⟨queue, rfl, rfl, rfl⟩

/-! ## A region change (R10, R12, R14) -/

theorem queueGrows_makeChange (h : QueueGrows s u) (r : RegionIx) : QueueGrows s (makeChange r u) := by
  refine QueueGrows.discard ?_ _ _
  exact ⟨h.older, h.short⟩

theorem queueGrows_completeDrain (s : State) : QueueGrows s (completeDrain s) := by
  obtain h | ⟨r, n, -, -, h⟩ := completeDrain_cases s
  · rw [h]
    exact .of_same rfl
  · rw [h]
    refine QueueGrows.then_raise (queueGrows_makeChange (u := { s with apply := .idle }) ?_ r) _
    exact .of_same rfl

theorem RegionLaw.of_quiet (hlaw : RegionLaw s) (h : Quiet s u) : RegionLaw u := by
  obtain ⟨hvalid, hstaging⟩ := hlaw
  exact ⟨fun r => by rw [h.regions]; exact hvalid r, fun hdrain => by
    rw [h.apply] at hdrain
    rw [h.staging]
    exact hstaging hdrain⟩

/-- A change puts a valid staging record in the table. -/
theorem RegionLaw.makeChange (hlaw : RegionLaw s) (hstaging : s.staging.valid = true) (r : RegionIx) :
    RegionLaw (makeChange r s) := by
  refine ⟨fun q => ?_, fun _ => ?_⟩
  · rw [regions_makeChange]
    split
    · exact hstaging
    · exact hlaw.1 q
  · obtain ⟨_, _, _, _, h⟩ := makeChange_only r s
    rw [h]
    exact hstaging

/-- The end of a drain makes the change of a staging record that was valid as the drain began. -/
theorem RegionLaw.completed (hlaw : RegionLaw s) {r : RegionIx} {n : Nat} (hdrain : s.apply = .draining r n) :
    RegionLaw ((Machine.makeChange r { s with apply := .idle }).raise { kind := .applyDone, region := r }) := by
  have valid : s.staging.valid = true := hlaw.2 (by simp [hdrain])
  have idle : RegionLaw { s with apply := .idle } := ⟨hlaw.1, fun h => absurd rfl h⟩
  exact (idle.makeChange valid r).of_quiet ((Quiet.of_same rfl rfl rfl rfl).raise _)

/-- An own effect only adds records at the young end. -/
theorem Effect.queueGrows {c : Instr} (h : Effect c s u) : QueueGrows s u := by
  cases h with
  | reset =>
    obtain ⟨_, _, _, _, _, _, h⟩ := resetTables_only s
    rw [h]
    refine QueueGrows.then_raise ?_ _
    exact .of_same rfl
  | request kind q => exact (quiet_accept s kind q).queue
  | commit p r =>
    obtain ⟨_, _, _, h⟩ := releaseIfFinished_only p (s.setTag p (some r.madeCommitted))
    rw [h]
    exact .of_same rfl
  | kill p => exact (quiet_removeRecords s _).queue
  | flush p r => exact (quiet_removeRecords s _).queue
  | verdictExpiry p r =>
    obtain ⟨_, h⟩ := abandon_only p r s
    exact ((QueueGrows.of_same (by rw [h])).trans (quiet_removeRecords (abandon p r s) [p]).queue).trans (.raise _ _)
  | strandExpiry e =>
    refine QueueGrows.then_raise ?_ _
    exact .of_same rfl
  | lockBroken k v n cause => exact (quiet_breakReservation s k v cause).queue
  | ready a f lines => exact (quiet_beatReady s a f.beat lines).queue
  | failure a f timeout => exact (quiet_beatFails s a f.beat timeout).queue
  | drained => exact queueGrows_completeDrain s
  | grant p r pl => exact (quiet_grantRecord s p r pl).queue
  | unlock i p => exact (quiet_performUnlock s p).queue
  | change index r => exact queueGrows_makeChange (.of_same rfl) r
  | discard => exact (quiet_discard s _ _).queue

/-- An own effect leaves the regions, or makes a change of a staging record that is valid. -/
theorem Effect.regionLaw {c : Instr} (h : Effect c s u) (hlaw : RegionLaw s) : RegionLaw u := by
  cases h with
  | reset =>
    obtain ⟨_, _, _, _, _, _, h⟩ := resetTables_only s
    rw [h]
    exact hlaw
  | request kind q => exact hlaw.of_quiet (quiet_accept s kind q)
  | commit p r =>
    obtain ⟨_, _, _, h⟩ := releaseIfFinished_only p (s.setTag p (some r.madeCommitted))
    rw [h]
    exact hlaw
  | kill p => exact hlaw.of_quiet (quiet_removeRecords s _)
  | flush p r => exact hlaw.of_quiet (quiet_removeRecords s _)
  | verdictExpiry p r =>
    obtain ⟨_, h⟩ := abandon_only p r s
    have abandoned : RegionLaw (abandon p r s) := h ▸ hlaw
    exact abandoned.of_quiet ((quiet_removeRecords _ [p]).raise _)
  | strandExpiry e => exact hlaw
  | lockBroken k v n cause => exact hlaw.of_quiet (quiet_breakReservation s k v cause)
  | ready a f lines => exact hlaw.of_quiet (quiet_beatReady s a f.beat lines)
  | failure a f timeout => exact hlaw.of_quiet (quiet_beatFails s a f.beat timeout)
  | drained r n _ hdrain hunused =>
    rw [completeDrain_of_unused hdrain hunused]
    exact hlaw.completed hdrain
  | grant p r pl => exact hlaw.of_quiet (quiet_grantRecord s p r pl)
  | unlock i p => exact hlaw.of_quiet (quiet_performUnlock s p)
  | change index r _ _ hvalid => exact hlaw.makeChange hvalid r
  | discard => exact hlaw.of_quiet (quiet_discard s _ _)

/-! ## The rest of an event -/

theorem regionLaw_settle (s : State) {u : State} (hlaw : RegionLaw u) : RegionLaw (settle s u) :=
  settle_keeps (P := RegionLaw) (fun v p _ h => h.of_quiet (quiet_performUnlock v p))
    (fun _ _ _ hdrain _ h => h.completed hdrain) (fun _ _ _ _ h => h) s hlaw

theorem queueGrows_latchSet (s u : State) : QueueGrows u (latchSet s u) := by
  unfold latchSet
  split
  · exact .of_same rfl
  · split
    · exact .of_same rfl
    · exact ⟨(QueueGrows.raise u _).older, (QueueGrows.raise u _).short⟩

theorem queueGrows_followLatch (s u : State) : QueueGrows u (followLatch s u) := by
  obtain ⟨_, h⟩ := latchClear_only s (latchSet s u)
  have kept : (followLatch s u).events = (latchSet s u).events := by rw [followLatch, h]
  exact (queueGrows_latchSet s u).trans (.of_same kept)

theorem queueGrows_settle (s u : State) : QueueGrows u (settle s u) := by
  obtain ⟨_, _, _, _, _, h⟩ := performUnlocks_only u
  have performed : (performUnlocks u).events = u.events := by rw [h]
  exact ((QueueGrows.of_same performed).trans (queueGrows_completeDrain _)).trans (queueGrows_followLatch s _)

/-! ## The tables that the boot read loads (R184) -/

section
variable {h : Vector Byte 12} {body : List Byte}

/-- With checks 5 and 6 passed every record passes. -/
theorem recordPasses_of_checkBody (hcheck : checkBody h body = none) (k : Nat) (hk : k < h[5].toNat) : RecordPasses body k := by
  have summed : halfWordSum (h.toList ++ body) % 2 ^ 16 = 0 := by
    by_contra hsum
    cases (checkBody_of_unsummed hsum).symm.trans hcheck
  induction k using Nat.strongRecOn with
  | ind k ih =>
    by_contra hfault
    obtain ⟨m, hfirst⟩ := checkBody_of_first summed hk fun j hj => ih j hj (hj.trans hk)
    rw [hcheck] at hfirst
    by_cases hvalid : (unpackRegion (imageRecord body k)).valid = true
    · cases hfirst.trans (checkFrom_of_repeated hvalid hfault m)
    · cases hfirst.trans (checkFrom_of_invalid (Bool.eq_false_iff.2 hvalid) m)

theorem valid_fallback : RegionEntry.fallback.valid = true := by decide

theorem valid_regionsAfter {n : Nat} (hpass : ∀ k < n, RecordPasses body k) (r : RegionIx) :
    ((regionsAfter body n)[r]).valid = true := by
  induction n with
  | zero =>
    rw [getElem_regionsAfter_of_unnamed fun k hk => absurd hk k.not_lt_zero]
    exact RegionEntry.valid_off
  | succ n ih =>
    rw [getElem_regionsAfter_succ]
    split
    · exact (hpass n n.lt_succ_self).1
    · exact ih fun k hk => hpass k (hk.trans n.lt_succ_self)

theorem regionLaw_loadValid (hcheck : checkBody h body = none) (hlaw : RegionLaw s) : RegionLaw (loadValid h body s) := by
  refine ⟨fun r => ?_, hlaw.2⟩
  rw [regions_loadValid]
  exact valid_regionsAfter (recordPasses_of_checkBody hcheck) r

theorem regionLaw_loadFailed (f : ImageFailure) (hlaw : RegionLaw s) : RegionLaw (loadFailed h f s) := by
  cases f with
  | corrupt cause offset index => exact hlaw
  | absent ones =>
    refine ⟨fun r => ?_, hlaw.2⟩
    change (((Vector.replicate 16 RegionEntry.off).set 0 RegionEntry.fallback)[r]).valid = true
    rw [Fin.getElem_fin, Vector.getElem_set]
    split
    · exact valid_fallback
    · rw [Vector.getElem_replicate]
      exact RegionEntry.valid_off

end

/-! ## Every step -/

theorem regionLaw_countTick (hlaw : RegionLaw s) : RegionLaw (countTick s) := by
  refine ⟨hlaw.1, fun hdrain => hlaw.2 fun hidle => hdrain ?_⟩
  change s.apply.tick = .idle
  rw [hidle]
  rfl

theorem regionLaw_settles {c : Instr} (h : Effect c s u) (hlaw : RegionLaw s) : RegionLaw (settle s u) :=
  regionLaw_settle s (h.regionLaw hlaw)

theorem Expiry.regionLaw {T : Timer} (h : Expiry T s u) (hlaw : RegionLaw s) : RegionLaw u :=
  h.keeps regionLaw_settles (fun _ _ _ hs => ⟨hs.1, fun hne => absurd rfl hne⟩) hlaw

theorem Acts.regionLaw {c : Instr} (h : Acts c s u) (hlaw : RegionLaw s) : RegionLaw u := by
  cases h with
  | powered b => exact regionLaw_poweredOn b s
  | ticked => exact expireAll_keeps (fun hT hs => Expiry.regionLaw hT hs) _ (regionLaw_countTick hlaw)
  | settles v hv => exact regionLaw_settles hv hlaw
  | drainExpiry r e => exact ⟨hlaw.1, fun hne => absurd rfl hne⟩
  | stages record _ hidle => exact ⟨hlaw.1, fun hne => absurd hidle hne⟩
  | drains index r _ _ hvalid => exact ⟨hlaw.1, fun _ => hvalid⟩
  | fails h body f => exact regionLaw_loadFailed f hlaw
  | loads h body _ _ hcheck => exact regionLaw_loadValid hcheck hlaw
  | _ => exact hlaw

theorem Expiry.queueGrows {T : Timer} (h : Expiry T s u) : QueueGrows s u := by
  cases h with
  | stays => exact .of_same rfl
  | settles v hv => exact hv.queueGrows.trans (queueGrows_settle s v)
  | drain r e =>
    refine QueueGrows.then_raise ?_ e
    exact .of_same rfl

theorem queueGrows_expireAll (Ts : List Timer) (s : State) : QueueGrows s (expireAll Ts s) := by
  rw [expireAll_eq_foldl]
  exact foldl_related (R := QueueGrows) (fun _ => .of_same rfl) .trans (fun _ T => (expiry_expire T).queueGrows) Ts s

theorem queueGrows_loadFailed (h : Vector Byte 12) (f : ImageFailure) (s : State) : QueueGrows s (loadFailed h f s) := by
  cases f with
  | absent ones =>
    refine QueueGrows.then_raise ?_ _
    exact .of_same rfl
  | corrupt cause offset index =>
    refine QueueGrows.then_raise ?_ _
    exact .of_same rfl

/-- What a command does leaves the queue empty by a power-on reset, less its oldest record by a TAKE EVENT, or only grown. -/
theorem Acts.queue {c : Instr} (h : Acts c s u) : (∃ b, c = .powerOnReset b) ∧ u.events = [] ∨
    c = .takeEvent ∧ (∃ e, s.events = e :: u.events) ∨ QueueGrows s u := by
  cases h with
  | powered b hc => exact .inl ⟨⟨b, hc⟩, rfl⟩
  | takes e rest hc he => exact .inr (.inl ⟨hc, e, he⟩)
  | ticked =>
    have counted : QueueGrows s (countTick s) := .of_same rfl
    exact .inr (.inr (counted.trans (queueGrows_expireAll _ _)))
  | settles v hv => exact .inr (.inr (hv.queueGrows.trans (queueGrows_settle s v)))
  | raises e => exact .inr (.inr (.raise s e))
  | drainExpiry r e =>
    refine .inr (.inr (QueueGrows.then_raise ?_ e))
    exact .of_same rfl
  | fails h body f => exact .inr (.inr (queueGrows_loadFailed h f s))
  | _ => exact .inr (.inr (.of_same rfl))

theorem Acts.queueLaw {c : Instr} (h : Acts c s u) (hlaw : QueueLaw s) : QueueLaw u := by
  obtain ⟨-, hempty⟩ | ⟨-, e, he⟩ | hgrows := h.queue
  · rw [QueueLaw, hempty]
    exact Nat.zero_le 16
  · rw [QueueLaw, he] at hlaw
    exact (Nat.le_succ _).trans hlaw
  · exact hgrows.short hlaw

/-- Settles O57: each own effect of a command adds records at the young end, if any, and leaves the region table or changes it
by a valid entry. -/
theorem queueAndRegionsKeepTheirLaws : Obligations.QueueAndRegionsKeepTheirLaws := by
  refine ⟨RegionEntry.valid_iff, fun s t hlaw hstep => step_keeps Acts.queueLaw (fun h => h) hstep hlaw,
    fun c s t hexec htake hpower => ?_, fun s t hlaw hstep => step_keeps Acts.regionLaw (fun h => h) hstep hlaw⟩
  obtain ⟨w, p, hacts, rfl, -⟩ := exec_does hexec
  obtain ⟨⟨b, hc⟩, -⟩ | ⟨hc, -⟩ | hgrows := hacts.queue
  · exact absurd hc (hpower b)
  · exact absurd hc htake
  · exact hgrows.older

end

end Sys2Proof.Machine
end

section
/-! SUPPORT. A timer that expires is no longer due, no expiry brings another to its limit, and no limit is 0; nothing is left
due after a step; and the statements about settled steps and about the tick. -/

namespace Sys2Proof.Machine

section
variable {s t u : State}

/-! ## What a tick counts, as the statement has it (R187, R188) -/

theorem tick_eq (c : CaptureEntry) : c.tick = { c with state := match c.state with
    | .stranded n (some k) => .stranded n (some (k - 1))
    | other => other } := by
  obtain ⟨state, _, _, _, _, _, _, _, _⟩ := c
  cases state with
  | stranded n k => cases k <;> rfl
  | _ => rfl

theorem isStrand_tick (c : CaptureEntry) : c.tick.isStrand = c.isStrand := by
  obtain ⟨state, _, _, _, _, _, _, _, _⟩ := c
  cases state <;> rfl

theorem region_tick (c : CaptureEntry) : c.tick.region = c.region := by
  unfold CaptureEntry.tick
  split <;> rfl

theorem Reservation.tick_eq (v : Reservation) : v.tick = { v with state := match v.state with
    | .reserved n => .reserved (n - 1)
    | .writing w => .writing w } := by
  obtain ⟨_, _, _, _, state, _⟩ := v
  cases state <;> rfl

theorem useCount_countTick (s : State) (r : RegionIx) : (countTick s).useCount r = s.useCount r := by
  have records : (countTick s).recordUses r = s.recordUses r := by
    simp only [State.recordUses, tag_countTick, Option.any_map]
    rfl
  have entries : (countTick s).entryUses r = s.entryUses r := by
    simp only [State.entryUses, State.length_entriesWhere, entries_countTick, Option.any_map, isStrand_tick, region_tick]
  have slots : (countTick s).slotUses r = s.slotUses r := by
    have region (v : Reservation) : v.tick.region = v.region := congrArg (·.2.2.2) (key_tick v)
    simp only [State.slotUses, slots_countTick, Option.any_map, region]
  rw [State.useCount, records, entries, slots, State.useCount]

theorem settled_countTick (h : Settled s) : Settled (countTick s) := by
  obtain ⟨hready, hdrain⟩ := h
  refine ⟨fun i => ?_, ?_⟩
  · rw [← hready i]
    simp only [State.readyUnlock, tag_countTick, Option.any_map, State.olderWaiting, State.anyRecord]
    rfl
  · have ticked : (countTick s).apply = s.apply.tick := rfl
    unfold State.drainDue at hdrain ⊢
    rw [ticked]
    cases happly : s.apply with
    | idle => rfl
    | draining r n =>
      rw [happly] at hdrain
      simpa only [ApplyState.tick, useCount_countTick] using hdrain

/-! ## Settled steps (R14, R141) -/

theorem Expiry.settled {T : Timer} (h : Expiry T s u) (hs : Settled s) : Settled u := by
  cases h with
  | stays => exact hs
  | settles v => exact settled_settle s v
  | drain r e => exact hs.of_idle rfl rfl

theorem Acts.settled {c : Instr} (h : Acts c s u) (hs : Settled s) : Settled u := by
  cases h with
  | powered b => exact settled_poweredOn b s
  | ticked => exact expireAll_keeps (fun hT hs => Expiry.settled hT hs) _ (settled_countTick hs)
  | settles v => exact settled_settle s v
  | drainExpiry r e => exact hs.of_idle rfl rfl
  | drains index r _ _ _ hused =>
    refine ⟨fun i => (readyUnlock_of_tags (State.tag_congr rfl) i).trans (hs.1 i), ?_⟩
    exact decide_eq_false hused
  | fails h body f => cases f <;> exact hs.congr rfl rfl rfl rfl
  | _ => exact hs.congr rfl rfl rfl rfl

/-! ## The limits (R9, R130, R145, R158) -/

/-- No limit is 0 (R188): the first part of the timer law. -/
structure LimitLaw (s : State) : Prop where
  regions : RegionLaw s
  drain : s.drainLimit ≠ 0
  wait : ∀ k : Select, s.waitLimits[k] ≠ 0
  access : ∀ a ∈ s.access, a.limit ≠ 0
  image : ∀ h : Vector Byte 12, s.boot = .body h → ∀ (k : Nat) (hk : k < 12), 7 ≤ k → h[k] ≠ 0

theorem timerLaw_iff : TimerLaw s ↔ LimitLaw s ∧ ∀ T : Timer, s.due T = false :=
  ⟨fun ⟨hregions, hdrain, hwait, haccess, himage, hdue⟩ => ⟨⟨hregions, hdrain, hwait, haccess, himage⟩, hdue⟩,
    fun ⟨⟨hregions, hdrain, hwait, haccess, himage⟩, hdue⟩ => ⟨hregions, hdrain, hwait, haccess, himage, hdue⟩⟩

theorem Widens.limit (h : Widens s u) (hlaw : LimitLaw s) : ∀ a ∈ u.access, a.limit ≠ 0 := by
  have closed {v : State} (hlimit : ∀ a ∈ v.access, ∃ b ∈ s.access, a.limit = b.limit) : ∀ a ∈ v.access, a.limit ≠ 0 := by
    intro a ha
    obtain ⟨b, hb, hab⟩ := hlimit a ha
    exact hab ▸ hlaw.access b hb
  cases h with
  | closes h => exact closed h.limit
  | takes q h =>
    obtain ⟨-, r, c, k, -, -, -, rfl⟩ := h
    exact hlaw.access
  | breaks k v cause _ hu =>
    obtain ⟨_, _, _, _, _, hbroken⟩ := breakReservation_only k v cause s
    rw [hu, hbroken]
    exact hlaw.access
  | opens v p r pl first e _ hlimits hu =>
    intro a ha
    rw [hu] at ha
    obtain rfl := Option.some_inj.1 ha
    change v.waitLimits[pl.select] ≠ 0
    rw [hlimits]
    exact hlaw.wait pl.select

theorem limitLaw_settles {c : Instr} (h : Effect c s u) (hlaw : LimitLaw s) : LimitLaw (settle s u) := by
  have same := h.sameSettings.trans (sameSettings_settle s u)
  refine ⟨regionLaw_settles h hlaw.regions, same.drainLimit ▸ hlaw.drain, fun k => ?_, fun a ha => ?_, ?_⟩
  · rw [same.waitLimits]
    exact hlaw.wait k
  · obtain ⟨b, hb, hlimit⟩ := (closes_settle s u).limit a ha
    exact hlimit ▸ h.widens.limit hlaw b hb
  · rw [same.boot]
    exact hlaw.image

theorem limitLaw_countTick (hlaw : LimitLaw s) : LimitLaw (countTick s) := by
  refine ⟨regionLaw_countTick hlaw.regions, hlaw.drain, hlaw.wait, fun a ha => ?_, hlaw.image⟩
  obtain ⟨b, hb, rfl⟩ := Option.map_eq_some_iff.1 (show s.access.map Access.tick = some a from ha)
  exact hlaw.access b hb

/-! ## Due timers -/

/-- A fresh lock timer has its region's lock limit to run, which is at least 1 in a valid entry (R8, R131). -/
theorem lockLimit_ne_zero (hlaw : RegionLaw s) {a : Word} {r : RegionIx} {c : RegionClass}
    (hmatch : matchRegion s.regions a = some (r, c)) : (s.regions[r]).lockLimit.toNat ≠ 0 := by
  obtain hoff | ⟨-, -, -, -, -, -, -, -, -, -, -, hlimit, -⟩ := (RegionEntry.valid_iff _).1 (hlaw.1 r)
  · exact absurd hoff (matchRegion_cls hmatch)
  · exact Nat.ne_of_gt hlimit

/-- A fresh verdict timer has its limit to run, or is none (R51). -/
theorem startTimer_ne_zero (q : Request) (limit : BitVec 12) : startTimer q limit ≠ some 0 := by
  unfold startTimer
  split
  · rename_i h
    rw [Ne, Option.some_inj]
    exact fun hzero => h.2 (BitVec.eq_of_toNat_eq hzero)
  · exact nofun

/-- The taking of a LOCK-READ starts timers with something left to run. -/
theorem due_takesLock {q : Request} (h : TakesLock q s u) (hlaw : RegionLaw s) (T : Timer) (hT : u.due T = true) :
    s.due T = true := by
  obtain ⟨-, r, c, k, hmatch, -, -, rfl⟩ := h
  cases T with
  | verdict p =>
    obtain ⟨w, hw, hzero, hverdict⟩ := State.due_verdict_iff.1 hT
    change (s.joinedBy q _).tag p = some w at hw
    obtain ⟨rfl, rfl⟩ | hw := tag_joinedBy_cases hw
    · exact absurd hzero (startTimer_ne_zero q _)
    · exact State.due_verdict_iff.2 ⟨w, hw, hzero, hverdict⟩
  | lock l =>
    obtain ⟨v, hv, hzero⟩ := State.due_lock_iff.1 hT
    change v ∈ (s.setSlot k _).slots[l] at hv
    rw [State.slots_setSlot] at hv
    split at hv
    · obtain rfl := Option.some_inj.1 hv
      exact absurd (LockState.reserved.inj hzero) (lockLimit_ne_zero hlaw hmatch)
    · exact State.due_lock_iff.2 ⟨v, hv, hzero⟩
  | _ => exact hT

theorem slots_breakReservation {k : SlotIx} {v : Reservation} {cause : Nat} :
    (breakReservation k v cause s).slots = (s.setSlot k none).slots := by
  unfold breakReservation
  simp only
  split
  · rfl
  · split <;> rfl

theorem State.due_raise (s : State) (e : EventRecord) (T : Timer) : (s.raise e).due T = s.due T :=
  State.due_congr rfl rfl rfl rfl rfl T

theorem due_breakReservation {k : SlotIx} {v : Reservation} {cause : Nat} (T : Timer)
    (hT : (breakReservation k v cause s).due T = true) : s.due T = true := by
  have freed (hT : ((s.setSlot k none).setLockLost v.initiator true).due T = true) : s.due T = true :=
    (Closes.setSlot_none s k).due T ((State.due_congr rfl rfl rfl rfl rfl T).symm.trans hT)
  unfold breakReservation at hT
  simp only [State.due_raise] at hT
  split at hT
  · exact freed hT
  · split at hT
    · exact freed hT
    · rename_i w hw
      exact freed ((Closes.setTag_some (r := { w with mark := true }) hw rfl rfl).due T hT)

theorem Widens.due (h : Widens s u) (hlaw : LimitLaw s) (T : Timer) (hT : u.due T = true) : s.due T = true := by
  cases h with
  | closes h => exact h.due T hT
  | takes q h => exact due_takesLock h hlaw.regions T hT
  | breaks k v cause _ hu => exact due_breakReservation T (hu ▸ hT)
  | opens v p r pl first e h hlimits hu =>
    cases T with
    | wait =>
      obtain ⟨a, ha, f, hf, hzero⟩ := State.due_wait_iff.1 hT
      rw [hu] at ha
      obtain rfl := Option.some_inj.1 ha
      obtain rfl := Option.some_inj.1 hf
      change (v.waitLimits[pl.select]).toNat = 0 at hzero
      rw [hlimits] at hzero
      exact absurd (BitVec.eq_of_toNat_eq hzero) (hlaw.wait pl.select)
    | _ =>
      rw [hu] at hT
      exact h.due _ hT

/-! ## The expiry of a timer (R188) -/

theorem tag_releaseIfFinished_of_ne {p q : Pair} (hq : q ≠ p) : (releaseIfFinished p s).tag q = s.tag q := by
  unfold releaseIfFinished
  split
  · split
    · rw [tag_releaseRecord, if_neg hq]
    · rfl
  · rfl

theorem tag_endWithoutWrite_of_ne {p q : Pair} (hq : q ≠ p) : (endWithoutWrite p s).tag q = s.tag q := by
  unfold endWithoutWrite
  split
  · rfl
  · rw [tag_releaseIfFinished_of_ne hq, State.tag_respond, State.tag_setTag, if_neg hq]

/-- A record that is not live does not come to be so by the ending of a LOCK-WRITE. -/
theorem tag_endWithoutWrite_of_free {p q : Pair} (hq : s.tag q = none) : (endWithoutWrite p s).tag q = none := by
  by_cases hqp : q = p
  · subst hqp
    have unchanged : endWithoutWrite q s = s := by simp only [endWithoutWrite, hq]
    rw [unchanged, hq]
  · rw [tag_endWithoutWrite_of_ne hqp, hq]

theorem tag_lockTableRemoval_of_free {p q : Pair} {r : TagRecord} (hq : s.tag q = none) :
    (lockTableRemoval p r s).tag q = none := by
  unfold lockTableRemoval
  split
  · unfold lockReadRemoved
    split
    · exact hq
    · split
      · exact hq
      · split
        · exact hq
        · exact tag_endWithoutWrite_of_free hq
  · split
    · obtain ⟨_, h⟩ := freeWriting_only p s
      rw [h]
      exact hq
    · exact hq
  all_goals exact hq

theorem tag_endAccessOf (p q : Pair) (s : State) : (endAccessOf p s).tag q = s.tag q := by
  obtain ⟨_, _, _, h⟩ := endAccessOf_only p s
  rw [h]
  rfl

theorem tag_dropRecord_self (p : Pair) (s : State) : (dropRecord p s).tag p = none := by
  unfold dropRecord
  split
  · assumption
  · refine tag_lockTableRemoval_of_free ?_
    rw [tag_endAccessOf]
    exact State.tag_setTag_self ..

/-- One record is removed by itself, its CAPTURED entry first. -/
theorem removeRecords_singleton (p : Pair) (s : State) :
    removeRecords [p] s = dropRecord p (strandAll (s.capturedBy fun q => [p].contains q) s) := by
  unfold removeRecords
  cases h : (s.tag p).any fun r => decide (r.kind = .lockWrite) <;> simp [h]

theorem tag_removeRecords_singleton (p : Pair) (s : State) : (removeRecords [p] s).tag p = none := by
  rw [removeRecords_singleton]
  exact tag_dropRecord_self p _

theorem access_beatFails (a : Access) (b : Nat) (timeout : Bool) (s : State) : (beatFails a b timeout s).access = none := by
  unfold beatFails
  simp only
  split
  · obtain ⟨_, _, _, _, h⟩ := endWrite_only a (failureStatus timeout) (s.setAccess none)
    rw [h]
    rfl
  · split
    · obtain ⟨_, _, _, _, h⟩ := endRead_only a (some (failureStatus timeout)) (s.setAccess none)
      rw [h]
      rfl
    · obtain ⟨_, _, h⟩ := endRemoved_only a none (s.setAccess none)
      rw [h]
      rfl

/-- An expiry ends its timer, and brings no other to its limit. -/
theorem due_expire (T : Timer) (s : State) :
    (∀ T' : Timer, (expire T s).due T' = true → s.due T' = true) ∧ (expire T s).due T = false := by
  have settled {u : State} (hmono : ∀ T' : Timer, u.due T' = true → s.due T' = true) (hself : u.due T = false) :
      (∀ T' : Timer, (settle s u).due T' = true → s.due T' = true) ∧ (settle s u).due T = false :=
    ⟨fun T' hT' => hmono T' ((closes_settle s u).due T' hT'),
      Bool.eq_false_iff.2 fun hT => absurd ((closes_settle s u).due T hT) (by simp [hself])⟩
  by_cases hdue : s.due T = true
  · cases T with
    | verdict p =>
      obtain ⟨r, hr, hzero, hverdict⟩ := State.due_verdict_iff.1 hdue
      have expired : expire (.verdict p) s = settle s ((removeRecords [p] (abandon p r s)).raise (timeoutEvent p r)) := by
        change expireVerdict p s = _
        rw [Option.mem_def] at hr
        simp only [expireVerdict, hr, hzero, hverdict, and_self, if_true]
      rw [expired]
      refine settled (Closes.after (.raise _ _) (.after (closes_removeRecords _ [p]) (closes_abandon p r s))).due ?_
      rw [State.due_raise, State.due, tag_removeRecords_singleton]
      rfl
    | strand e =>
      obtain ⟨c, hc, n, hzero⟩ := State.due_strand_iff.1 hdue
      have expired : expire (.strand e) s = settle s ((s.setEntry e none).raise (strandExpiredEvent c)) := by
        change expireStrand e s = _
        rw [Option.mem_def] at hc
        simp only [expireStrand, hc, hzero]
        rfl
      rw [expired]
      refine settled ((Closes.setEntry_none s e).trans (.raise _ _)).due ?_
      rw [State.due_raise, State.due, State.entries_setEntry_self]
      rfl
    | lock k =>
      obtain ⟨v, hv, hzero⟩ := State.due_lock_iff.1 hdue
      have expired : expire (.lock k) s = settle s (breakReservation k v 0 s) := by
        change expireLock k s = _
        rw [Option.mem_def] at hv
        simp only [expireLock, hv, hzero, if_true]
      rw [expired]
      refine settled due_breakReservation ?_
      rw [State.due, slots_breakReservation, State.slots_setSlot, if_pos rfl]
      rfl
    | drain =>
      obtain ⟨r, hr⟩ := State.due_drain_iff.1 hdue
      have expired : expire .drain s = ({ s with apply := .idle } : State).raise
          { kind := .applyTimeout, region := r, countA := count16 (s.useCount r) } := by
        change expireDrain s = _
        simp only [expireDrain, hr, if_true]
      rw [expired]
      exact ⟨((Closes.idle s).trans (.raise _ _)).due, rfl⟩
    | wait =>
      obtain ⟨a, ha, f, hf, hzero⟩ := State.due_wait_iff.1 hdue
      have expired : expire .wait s = settle s (beatFails a f.beat true s) := by
        change expireWait s = _
        rw [Option.mem_def] at ha hf
        simp only [expireWait, ha, hf, hzero, if_true]
      rw [expired]
      refine settled (closes_beatFails s a f.beat true).due ?_
      rw [State.due, access_beatFails]
      rfl
  · rw [expire_of_not_due T s (Bool.eq_false_iff.2 hdue)]
    exact ⟨fun _ => id, Bool.eq_false_iff.2 hdue⟩

/-- The expiries in turn leave none of their timers due. -/
theorem due_expireAll {Ts : List Timer} {T : Timer} (hT : T ∈ Ts ∨ s.due T = false) : (expireAll Ts s).due T = false := by
  rw [expireAll_eq_foldl]
  induction Ts generalizing s with
  | nil => exact hT.resolve_left List.not_mem_nil
  | cons T' Ts ih =>
    rw [List.foldl_cons]
    refine ih (or_iff_not_imp_left.2 fun hlater => ?_)
    by_cases hself : T = T'
    · exact hself ▸ (due_expire T s).2
    · have before := hT.resolve_left fun hmem => (List.mem_cons.1 hmem).elim hself hlater
      exact Bool.eq_false_iff.2 fun hdue => absurd ((due_expire T' s).1 T hdue) (by simp [before])

theorem mem_allPairs (p : Pair) : p ∈ allPairs := by
  obtain ⟨i, t⟩ := p
  simp [allPairs]

theorem mem_allTimers (T : Timer) : T ∈ allTimers := by
  cases T <;> simp [allTimers, mem_allPairs]

theorem limitLaw_ticked (hlaw : LimitLaw s) : LimitLaw (expireAll allTimers (countTick s)) :=
  expireAll_keeps (Expiry.keeps limitLaw_settles fun _ _ _ hs =>
    ⟨⟨hs.regions.1, fun hne => absurd rfl hne⟩, hs.drain, hs.wait, hs.access, hs.image⟩) _ (limitLaw_countTick hlaw)

/-! ## The timer law of every step -/

theorem limits_of_settingOutOfRange {h : Vector Byte 12} (hnone : settingOutOfRange h = none) (k : Nat) (hk : k < 12)
    (hlow : 7 ≤ k) : h[k] ≠ 0 := by
  have divider : ¬(h[6].toNat < 10 ∨ 100 < h[6].toNat) := fun hdivider => by
    cases (settingOutOfRange_of_divider hdivider).symm.trans hnone
  induction k using Nat.strongRecOn with
  | ind k ih =>
    intro hzero
    cases (settingOutOfRange_of_zero divider hlow hzero fun j hj hlow hlt => ih j hlt hj hlow divider).symm.trans hnone

/-- The body is read only with every check of the header passed (R183). -/
theorem bootAfterHeader_eq_body {h h' : Vector Byte 12} (hbody : bootAfterHeader h = .body h') :
    h' = h ∧ ∀ (k : Nat) (hk : k < 12), 7 ≤ k → h[k] ≠ 0 := by
  unfold bootAfterHeader at hbody
  cases hcheck : checkHeader h with
  | some failure =>
    rw [hcheck] at hbody
    cases hbody
  | none =>
    rw [hcheck] at hbody
    refine ⟨(Boot.body.inj hbody).symm, limits_of_settingOutOfRange ?_⟩
    by_cases hid : HasIdentity h
    · rw [checkHeader_of_identity hid] at hcheck
      split_ifs at hcheck
      exact Option.map_eq_none_iff.1 hcheck
    · cases (checkHeader_of_no_identity hid).symm.trans hcheck

theorem Acts.limitLaw {c : Instr} (h : Acts c s u) (hlaw : LimitLaw s) : LimitLaw u := by
  obtain ⟨hregions, hdrain, hwait, haccess, himage⟩ := hlaw
  have regions := h.regionLaw hregions
  cases h with
  | powered b => exact (timerLaw_iff.1 (timerLaw_poweredOn b s)).1
  | ticked => exact limitLaw_ticked ⟨hregions, hdrain, hwait, haccess, himage⟩
  | settles v hv => exact limitLaw_settles hv ⟨hregions, hdrain, hwait, haccess, himage⟩
  | issues a _ ha =>
    refine ⟨regions, hdrain, hwait, fun b hb => ?_, himage⟩
    obtain rfl := Option.some_inj.1 hb
    exact haccess a ha
  | limits select limit _ hlow hlimit =>
    refine ⟨regions, hdrain, fun k => ?_, haccess, himage⟩
    change (s.waitLimits.set select.toNat limit)[k] ≠ 0
    rw [Fin.getElem_fin, Vector.getElem_set]
    split
    · exact hlimit
    · exact hwait k
  | reads h =>
    refine ⟨regions, hdrain, hwait, haccess, fun h' hbody => ?_⟩
    obtain ⟨rfl, hlimits⟩ := bootAfterHeader_eq_body hbody
    exact hlimits
  | fails h body f =>
    have waits (k : Select) : (Vector.replicate 4 Config.defaultWaitLimit)[k] ≠ 0 := by
      rw [Fin.getElem_fin, Vector.getElem_replicate]
      decide
    cases f with
    | absent ones => exact ⟨regions, (by decide : Config.defaultDrainLimit ≠ 0), waits, haccess, nofun⟩
    | corrupt cause offset index => exact ⟨regions, (by decide : Config.defaultDrainLimit ≠ 0), waits, haccess, nofun⟩
  | loads h body _ hboot =>
    have limits := himage h hboot
    refine ⟨regions, limits 7 (by decide) le_rfl, fun k => ?_, haccess, nofun⟩
    obtain ⟨k, hk⟩ := k
    obtain rfl | rfl | rfl | rfl : k = 0 ∨ k = 1 ∨ k = 2 ∨ k = 3 := by omega
    · exact limits 8 (by decide) (by decide)
    · exact limits 9 (by decide) (by decide)
    · exact limits 10 (by decide) (by decide)
    · exact limits 11 (by decide) (by decide)
  | _ => exact ⟨regions, hdrain, hwait, haccess, himage⟩

theorem Acts.due {c : Instr} (h : Acts c s u) (hlaw : LimitLaw s) (hdue : ∀ T : Timer, s.due T = false) (T : Timer) :
    u.due T = false := by
  have same (h : u.due T = s.due T) : u.due T = false := h.trans (hdue T)
  cases h with
  | powered b => exact (timerLaw_iff.1 (timerLaw_poweredOn b s)).2 T
  | ticked => exact due_expireAll (.inl (mem_allTimers T))
  | settles v hv =>
    exact Bool.eq_false_iff.2 fun hT => absurd (hv.widens.due hlaw T ((closes_settle s v).due T hT)) (by simp [hdue])
  | drainExpiry r e =>
    cases T with
    | drain => rfl
    | _ => exact same rfl
  | issues a _ ha =>
    cases T with
    | wait =>
      refine Bool.eq_false_iff.2 fun hT => ?_
      obtain ⟨b, hb, f, hf, hzero⟩ := State.due_wait_iff.1 hT
      obtain rfl := Option.some_inj.1 hb
      obtain rfl := Option.some_inj.1 hf
      exact hlaw.access a ha (BitVec.eq_of_toNat_eq hzero)
    | _ => exact same rfl
  | drains index r =>
    cases T with
    | drain =>
      refine Bool.eq_false_iff.2 fun hT => ?_
      obtain ⟨r', hr'⟩ := State.due_drain_iff.1 hT
      have zero : drainTicks s = 0 := (ApplyState.draining.inj hr').2
      obtain hticks | hlimit := Nat.mul_eq_zero.1 zero
      · cases hticks
      · exact hlaw.drain (BitVec.eq_of_toNat_eq hlimit)
    | _ => exact same rfl
  | fails h body f => cases f <;> exact same (State.due_congr rfl rfl rfl rfl rfl T)
  | _ => exact same (State.due_congr rfl rfl rfl rfl rfl T)

theorem Acts.timerLaw {c : Instr} (h : Acts c s u) (hlaw : TimerLaw s) : TimerLaw u := by
  obtain ⟨hlimits, hdue⟩ := timerLaw_iff.1 hlaw
  exact timerLaw_iff.2 ⟨h.limitLaw hlimits, h.due hlimits hdue⟩

theorem TimerLaw.waiting {p : Port} {d : List Byte} {q : List Instr} (hlaw : TimerLaw s) :
    TimerLaw { s with port := p, dataIn := d, pending := q } := by
  obtain ⟨⟨hregions, hdrain, hwait, haccess, himage⟩, hdue⟩ := timerLaw_iff.1 hlaw
  exact timerLaw_iff.2 ⟨⟨hregions, hdrain, hwait, haccess, himage⟩,
    fun T => (State.due_congr rfl rfl rfl rfl rfl T).trans (hdue T)⟩

/-- Settles O4: the rest of an event leaves nothing due, the rows without one make nothing due; and each timer starts with its
limit, which is not 0, and is taken at the tick that brings it there. -/
theorem stepsStaySettled : Obligations.StepsStaySettled :=
  ⟨fun _ _ hs hstep => step_keeps Acts.settled (fun h => h.congr rfl rfl rfl rfl) hstep hs,
    fun _ _ hlaw hstep => step_keeps Acts.timerLaw TimerLaw.waiting hstep hlaw⟩

theorem after_expiryRow (T : Timer) (s : State) : s.after (expiryRow T) = expire T s := by
  rw [State.after, exec_expiryRow]

/-- Settles O24: the expiries of a tick are taken in turn, each leaves its timer not due, and none brings another to its limit. -/
theorem aTickCountsEveryTimer : Obligations.ATickCountsEveryTimer := by
  refine ⟨mem_allTimers, fun T s => ?_, fun s => ⟨countTick s, rfl, tag_countTick, fun e => ?_, fun k => ?_, ?_, rfl, rfl, ?_⟩⟩
  · cases T with
    | verdict p => exact State.due_verdict_iff
    | strand e => exact State.due_strand_iff
    | lock k => exact State.due_lock_iff
    | drain => exact State.due_drain_iff
    | wait => exact State.due_wait_iff
  · rw [entries_countTick]
    exact congrArg (Option.map · _) (funext tick_eq)
  · rw [slots_countTick]
    exact congrArg (Option.map · _) (funext Reservation.tick_eq)
  · change s.apply.tick = _
    cases s.apply <;> rfl
  · have in_turn : allTimers.foldl (fun v T => v.after (expiryRow T)) (countTick s) = expireAll allTimers (countTick s) := by
      rw [expireAll_eq_foldl, funext fun v => funext fun T => after_expiryRow T v]
    intro t
    have ticked : t = expireAll allTimers (countTick s) := in_turn
    rw [ticked]
    exact ⟨rfl, fun T => due_expireAll (.inl (mem_allTimers T))⟩

end

end Sys2Proof.Machine
end

section
/-! SUPPORT. Strands listed by sequence number, what each gives a read and keeps, and the FREE entries that a grant leaves; the
statements about grants in turn, the access that a grant opens, the strands that it consumes and the reserve that it leaves. -/

namespace Sys2Proof.Machine

/-! ## Lists of entries in order (R92, R96) -/

theorem perm_insertBy (key : CaptureEntry → Nat) (x : Numbered) (es : List Numbered) :
    (insertBy key x es).Perm (x :: es) := by
  induction es with
  | nil => exact .refl _
  | cons y ys ih =>
    rw [insertBy]
    split
    · exact .refl _
    · exact (ih.cons y).trans (.swap x y ys)

theorem perm_sortBy (key : CaptureEntry → Nat) (es : List Numbered) : (sortBy key es).Perm es := by
  induction es with
  | nil => exact .refl _
  | cons x xs ih => exact (perm_insertBy key x (sortBy key xs)).trans (ih.cons x)

theorem sorted_insertBy {key : CaptureEntry → Nat} {x : Numbered} {es : List Numbered}
    (h : es.Pairwise fun y z => key y.2 ≤ key z.2) : (insertBy key x es).Pairwise fun y z => key y.2 ≤ key z.2 := by
  induction es with
  | nil => simp [insertBy]
  | cons y ys ih =>
    obtain ⟨hfirst, hrest⟩ := List.pairwise_cons.1 h
    rw [insertBy]
    split
    · rename_i hle
      refine List.pairwise_cons.2 ⟨fun z hz => ?_, h⟩
      exact (List.mem_cons.1 hz).elim (fun hzy => hzy ▸ hle) fun hz => hle.trans (hfirst z hz)
    · rename_i hlt
      refine List.pairwise_cons.2 ⟨fun z hz => ?_, ih hrest⟩
      exact (mem_insertBy.1 hz).elim (fun hzx => hzx ▸ (Nat.le_of_not_le hlt)) (hfirst z)

theorem sorted_sortBy (key : CaptureEntry → Nat) (es : List Numbered) :
    (sortBy key es).Pairwise fun y z => key y.2 ≤ key z.2 := by
  induction es with
  | nil => exact .nil
  | cons x xs ih => exact sorted_insertBy ih

section
variable {s : State} {pl : Place} {size : BeatSize} {count : Nat}

/-- No entry is listed twice. -/
theorem nodup_entriesWhere (s : State) (f : CaptureEntry → Bool) : ((s.entriesWhere f).map (·.1)).Nodup := by
  rw [State.entriesWhere_numbers]
  exact (List.nodup_finRange 32).filter _

theorem nodup_compatible : ((s.compatible pl size count).map (·.1)).Nodup := by
  refine ((perm_sortBy _ _).map _).nodup_iff.2 ?_
  exact (nodup_entriesWhere s CaptureEntry.isStrand).sublist ((List.filter_sublist.trans List.filter_sublist).map _)

/-! ## What strands give (R97, R98) -/

theorem takenBeats_takeFrom (need : Nat) (xs : List Numbered) :
    takenBeats (takeFrom need xs) = (xs.flatMap (·.2.beats)).take need := by
  induction xs generalizing need with
  | nil => simp [takeFrom, takenBeats]
  | cons x xs ih =>
    obtain ⟨e, c⟩ := x
    rw [takeFrom]
    split
    · rename_i hneed
      simp [hneed, takenBeats]
    · have first : takenBeats (⟨e, c, c.beats.take need⟩ :: takeFrom (need - c.beats.length) xs) =
          c.beats.take need ++ takenBeats (takeFrom (need - c.beats.length) xs) := rfl
      rw [first, ih, List.flatMap_cons, List.take_append]

/-- Each strand but the last taken from is emptied. -/
theorem pairwise_takeFrom (need : Nat) (xs : List Numbered) :
    (takeFrom need xs).Pairwise fun x _ => x.beats = x.strand.beats := by
  induction xs generalizing need with
  | nil => exact .nil
  | cons x xs ih =>
    obtain ⟨e, c⟩ := x
    rw [takeFrom]
    split
    · exact .nil
    · refine List.pairwise_cons.2 ⟨fun t ht => List.take_of_length_le ?_, ih _⟩
      by_contra hlong
      have spent : need - c.beats.length = 0 := by omega
      rw [spent] at ht
      cases xs with
      | nil => cases ht
      | cons y ys => simp [takeFrom] at ht

/-- The strands taken from are the first of those offered. -/
theorem entries_takeFrom (need : Nat) (xs : List Numbered) : (takeFrom need xs).map (·.entry) <+: xs.map (·.1) := by
  induction xs generalizing need with
  | nil => exact List.prefix_rfl
  | cons x xs ih =>
    obtain ⟨e, c⟩ := x
    rw [takeFrom]
    split
    · exact List.nil_prefix
    · simpa using ih _

theorem nodup_consumption : ((s.consumption pl size count).map (·.entry)).Nodup := by
  unfold State.consumption
  split
  · exact nodup_compatible.sublist (entries_takeFrom _ _).sublist
  · have first : (((s.compatible pl size count).take 1).map (·.1)).Sublist ((s.compatible pl size count).map (·.1)) :=
      (List.take_sublist _ _).map _
    exact nodup_compatible.sublist ((entries_takeFrom _ _).sublist.trans first)

/-- A strand is emptied exactly if every beat of it is taken (R69). -/
theorem empties_iff {t : Taken} (h : t ∈ s.consumption pl size count) : t.empties = true ↔ t.beats = t.strand.beats := by
  obtain ⟨-, n, -, hbeats⟩ := mem_consumption h
  rw [Taken.empties, decide_eq_true_iff]
  constructor
  · intro hall
    rw [hbeats, List.length_take] at hall
    rw [hbeats]
    exact List.take_of_length_le (by omega)
  · rintro heq
    rw [heq]

/-! ## What taking leaves (R96, R98) -/

/-- What taking from a strand leaves of its entry: the rest of its beats, or nothing. -/
def Taken.left (t : Taken) (regions : Vector RegionEntry 16) : Option CaptureEntry :=
  if t.strand.beats.drop t.beats.length = [] then none
  else some { t.strand with
    beats := t.strand.beats.drop t.beats.length
    start := match t.strand.mode with
      | .fixed => t.strand.start
      | .step => BitVec.ofNat 28 (foldedAddress regions[t.strand.region].targetBase.toNat regions[t.strand.region].span
          t.strand.start.toNat (t.beats.length * t.strand.size.bytes)) }

theorem consume_eq (t : Taken) (s : State) : consume t s = s.setEntry t.entry (t.left s.regions) := by
  unfold consume Taken.left
  simp only [List.drop_eq_nil_iff, Taken.empties, decide_eq_true_eq]
  split <;> rfl

theorem entries_consumeAll_of_not_mem {ts : List Taken} {e : EntryIx} (h : ∀ t ∈ ts, t.entry ≠ e) :
    (consumeAll ts s).entries[e] = s.entries[e] := by
  induction ts generalizing s with
  | nil => rfl
  | cons t ts ih =>
    change (consumeAll ts (consume t s)).entries[e] = _
    rw [ih fun x hx => h x (List.mem_cons_of_mem _ hx), consume_eq, State.entries_setEntry,
      if_neg (h t List.mem_cons_self).symm]

theorem entries_consumeAll_of_mem {ts : List Taken} (hdistinct : (ts.map (·.entry)).Nodup) {t : Taken} (ht : t ∈ ts) :
    (consumeAll ts s).entries[t.entry] = t.left s.regions := by
  induction ts generalizing s with
  | nil => cases ht
  | cons x xs ih =>
    rw [List.map_cons, List.nodup_cons] at hdistinct
    change (consumeAll xs (consume x s)).entries[t.entry] = _
    obtain rfl | ht := List.mem_cons.1 ht
    · have others (y : Taken) (hy : y ∈ xs) : y.entry ≠ t.entry := fun hsame =>
        hdistinct.1 (List.mem_map.2 ⟨y, hy, hsame⟩)
      rw [entries_consumeAll_of_not_mem others, consume_eq, State.entries_setEntry_self]
    · rw [ih hdistinct.2 ht, consume_eq]
      rfl

/-- Settles O33: the strands offered are those under the read that agree with it, in their order, and each is taken from
once. -/
theorem strandsAreConsumedInOrder : Obligations.StrandsAreConsumedInOrder := by
  intro s pl size count
  have held (c : CaptureEntry) (a : Nat) : a ∈ s.heldRange c ↔ match c.mode with
      | .fixed => c.start.toNat ≤ a ∧ a < c.start.toNat + c.size.bytes
      | .step => ∃ k : Nat, k < c.beats.length ∧
          let base := s.regions[c.region].targetBase.toNat
          let first := base + (c.start.toNat - base + k * c.size.bytes) % 2 ^ s.regions[c.region].spanExp.toNat
          first ≤ a ∧ a < first + c.size.bytes := by
    unfold State.heldRange
    cases c.mode with
    | fixed => exact mem_beatBytes
    | step =>
      simp only [List.mem_flatMap, List.mem_range, mem_beatBytes]
      rfl
  refine ⟨held, fun x => State.mem_strandsUnder_iff, fun x => State.mem_compatible_iff, ?_, ?_, ?_, fun x hx => ?_,
    fun e he => entries_consumeAll_of_not_mem he, ?_⟩
  · refine (sorted_sortBy CaptureEntry.sequence _).imp fun {x y} hle n m k l hx hy => ?_
    simpa only [CaptureEntry.sequence, hx, hy] using hle
  · unfold State.consumption
    cases pl.mode with
    | fixed => exact takenBeats_takeFrom _ _
    | step =>
      refine (takenBeats_takeFrom _ _).trans ?_
      cases s.compatible pl size count <;> simp
  · unfold State.consumption
    split <;> exact pairwise_takeFrom _ _
  · obtain ⟨hcompatible, n, -, hbeats⟩ := mem_consumption hx
    refine ⟨hcompatible, ?_, entries_consumeAll_of_mem nodup_consumption hx⟩
    rw [hbeats, List.length_take, List.take_eq_take_iff]
    omega
  · obtain ⟨es, h⟩ := consumeAll_only s (s.consumption pl size count)
    change consumeAll _ s = { s with entries := (consumeAll _ s).entries }
    rw [h]

end

/-! ## The FREE entries (R69) -/

section
variable {s u : State}

theorem freeCount_eq_card (s : State) : s.freeCount = (Finset.univ.filter fun e : EntryIx => s.entries[e] = none).card := by
  rw [State.freeCount, List.countP_eq_length_filter, ← List.toFinset_card_of_nodup ((List.nodup_finRange 32).filter _)]
  congr 1
  ext e
  simp [State.isFree]

/-- An entry that is freed is one more. -/
theorem freeCount_setEntry_none {e : EntryIx} (he : s.entries[e] ≠ none) : (s.setEntry e none).freeCount = s.freeCount + 1 := by
  have more : (Finset.univ.filter fun d : EntryIx => (s.setEntry e none).entries[d] = none) =
      insert e (Finset.univ.filter fun d : EntryIx => s.entries[d] = none) := by
    ext d
    simp only [State.entries_setEntry, Finset.mem_filter, Finset.mem_univ, true_and, Finset.mem_insert]
    split <;> simp_all
  rw [freeCount_eq_card, freeCount_eq_card, more, Finset.card_insert_of_notMem]
  simpa using he

/-- An entry that changes without becoming FREE leaves the count. -/
theorem freeCount_setEntry_some {e : EntryIx} {c : CaptureEntry} (he : s.entries[e] ≠ none) :
    (s.setEntry e (some c)).freeCount = s.freeCount := by
  have same : (Finset.univ.filter fun d : EntryIx => (s.setEntry e (some c)).entries[d] = none) =
      Finset.univ.filter fun d : EntryIx => s.entries[d] = none := by
    ext d
    simp only [State.entries_setEntry, Finset.mem_filter, Finset.mem_univ, true_and]
    split <;> simp_all
  rw [freeCount_eq_card, freeCount_eq_card, same]

/-- A FREE entry that is given away is one fewer. -/
theorem freeCount_giveEntry {e : EntryIx} {c : CaptureEntry} (he : s.entries[e] = none) :
    (giveEntry e c s).freeCount + 1 = s.freeCount := by
  have taken : (s.setEntry e (some c)).entries[e] ≠ none := by
    rw [State.entries_setEntry_self]
    exact Option.some_ne_none c
  have back : ((s.setEntry e (some c)).setEntry e none).freeCount = s.freeCount := by
    rw [freeCount_eq_card, freeCount_eq_card]
    congr 1
    ext d
    simp only [State.entries_setEntry, Finset.mem_filter, Finset.mem_univ, true_and]
    split <;> simp_all
  exact (freeCount_setEntry_none taken).symm.trans back

/-- The FREE entries stay FREE, so that there are as many at least. -/
theorem freeCount_le (h : ∀ e : EntryIx, s.entries[e] = none → u.entries[e] = none) : s.freeCount ≤ u.freeCount := by
  rw [freeCount_eq_card, freeCount_eq_card]
  refine Finset.card_le_card fun e he => ?_
  simp only [Finset.mem_filter, Finset.mem_univ, true_and] at he ⊢
  exact h e he

/-- Consumption frees the strands that it empties. -/
theorem freeCount_consumeAll {ts : List Taken} (hdistinct : (ts.map (·.entry)).Nodup)
    (hused : ∀ t ∈ ts, s.entries[t.entry] ≠ none) : (consumeAll ts s).freeCount = s.freeCount + ts.countP Taken.empties := by
  induction ts generalizing s with
  | nil => rfl
  | cons t ts ih =>
    rw [List.map_cons, List.nodup_cons] at hdistinct
    have used := hused t List.mem_cons_self
    have later (x : Taken) (hx : x ∈ ts) : (consume t s).entries[x.entry] ≠ none := by
      have other : x.entry ≠ t.entry := fun hsame => hdistinct.1 (List.mem_map.2 ⟨x, hx, hsame⟩)
      rw [consume_eq, State.entries_setEntry, if_neg other]
      exact hused x (List.mem_cons_of_mem _ hx)
    change (consumeAll ts (consume t s)).freeCount = _
    rw [ih hdistinct.2 later, List.countP_cons]
    unfold consume
    split
    · rw [freeCount_setEntry_none used]
      omega
    · rw [freeCount_setEntry_some used]
      rfl

theorem freeCount_consumption {pl : Place} {size : BeatSize} {count : Nat} :
    (consumeAll (s.consumption pl size count) s).freeCount = s.effectiveFree pl size count :=
  freeCount_consumeAll nodup_consumption fun t ht => by simp [entries_of_mem_consumption ht]

/-! ## A FREE entry stays FREE through what only releases -/

theorem free_setEntry_none {e d : EntryIx} (h : s.entries[d] = none) : (s.setEntry e none).entries[d] = none := by
  rw [State.entries_setEntry]
  split
  · rfl
  · exact h

theorem free_releaseRecord {p : Pair} {r : TagRecord} {e : EntryIx} (h : s.entries[e] = none) :
    (releaseRecord p r s).entries[e] = none := by
  obtain ⟨_, hslots⟩ := clearLockRead_only p (freeEntryOf r (s.setTag p none))
  rw [releaseRecord, hslots]
  change (freeEntryOf r (s.setTag p none)).entries[e] = none
  unfold freeEntryOf
  split
  · exact free_setEntry_none (s := s.setTag p none) h
  · exact h

theorem free_releaseIfFinished {p : Pair} {e : EntryIx} (h : s.entries[e] = none) :
    (releaseIfFinished p s).entries[e] = none := by
  unfold releaseIfFinished
  split
  · split
    · exact free_releaseRecord h
    · exact h
  · exact h

theorem free_performUnlock {p : Pair} {e : EntryIx} (h : s.entries[e] = none) : (performUnlock p s).entries[e] = none := by
  unfold performUnlock
  split
  · exact h
  · refine free_releaseIfFinished ?_
    obtain ⟨_, _, heffect⟩ := unlockEffect_only p.initiator s
    change (unlockEffect p.initiator s).2.entries[e] = none
    rw [heffect]
    exact h

theorem free_settle {e : EntryIx} (s : State) (h : u.entries[e] = none) : (settle s u).entries[e] = none :=
  settle_keeps (P := fun v => v.entries[e] = none) (fun _ _ _ hv => free_performUnlock hv)
    (fun v r _ _ _ hv => by
      change (makeChange r { v with apply := .idle }).entries[e] = none
      rw [entries_makeChange]
      split
      · rfl
      · exact hv)
    (fun _ _ _ _ hv => hv) s h

theorem freeCount_settle_le (s u : State) : u.freeCount ≤ (settle s u).freeCount := freeCount_le fun _ => free_settle s

/-! ## The reserve (R70) -/

section
variable {p : Pair} {r : TagRecord} {pl : Place}

theorem freeCount_consumed :
    (consumeAll (s.consumption pl r.size r.count) (s.granted p r)).freeCount = s.effectiveFree pl r.size r.count :=
  freeCount_consumption (s := s.granted p r) (pl := pl) (size := r.size) (count := r.count)

theorem State.free_of_lowestFree {v : State} {e : EntryIx} (h : v.lowestFree = some e) : v.entries[e] = none :=
  (State.lowestFree_eq_some_iff.1 h).1

/-- The grant of an uncommitted guarded read takes one entry of three at least. -/
theorem freeCount_grantRecord (h : Grants p r pl s u) (hguarded : IsGuarded r pl) (hverdict : r.verdict = .none)
    (hagree : NoConflict s r pl) (hthree : 3 ≤ s.effectiveFree pl r.size r.count) : 2 ≤ u.freeCount := by
  rw [← freeCount_consumed (p := p)] at hthree
  cases h with
  | opens hplain => exact absurd hguarded hplain
  | refuses _ hconflict => exact absurd (conflicts_eq_nil_iff.2 hagree) hconflict
  | served v _ _ _ _ hcommitted => exact absurd (hverdict.symm.trans hcommitted) nofun
  | full v _ _ hv =>
    rw [← hv] at hthree
    omega
  | captures v e _ _ hv hfree =>
    rw [← hv] at hthree
    have given := freeCount_giveEntry (c := allocated r pl (takenBeats (s.consumption pl r.size r.count)) (.captured p) v)
      (State.free_of_lowestFree hfree)
    have enough := Nat.le_of_succ_le_succ (given ▸ hthree)
    exact enough.trans (freeCount_le fun d hd => free_releaseIfFinished hd)
  | fills v e _ _ hv hfree =>
    rw [← hv] at hthree
    have given := freeCount_giveEntry (c := allocated r pl (takenBeats (s.consumption pl r.size r.count))
      (.filling (some p) (r.count - (takenBeats (s.consumption pl r.size r.count)).length)) v)
      (State.free_of_lowestFree hfree)
    have enough := Nat.le_of_succ_le_succ (given ▸ hthree)
    exact enough.trans (freeCount_le fun d hd => hd)

/-- Settles O35: the grant needs three entries, by then or before, and takes one. -/
theorem theReserveStands : Obligations.TheReserveStands := by
  intro p r pl s t hidle hfirst hr hpl hguarded hverdict hagree hexec
  obtain ⟨heligible, -⟩ := s.firstInTurn_spec hfirst
  obtain ⟨r', pl', hr', hpl', -, hentry⟩ := State.eligible_iff.1 heligible
  obtain rfl := Option.some_inj.1 (hr.symm.trans hr')
  obtain rfl := Option.some_inj.1 (hpl.symm.trans hpl')
  have three := hentry hguarded hagree
  rw [if_neg (by simp [hverdict])] at three
  obtain rfl := Host.Outcome.next.inj ((exec_grant_of_first hidle hfirst hr hpl).symm.trans hexec)
  exact (freeCount_grantRecord (grants_grantRecord s p r pl) hguarded hverdict hagree three).trans (freeCount_settle_le s _)

/-! ## Grants in turn (R146, R147) -/

theorem tag_releaseIfFinished_self (h : s.tag p = some r) :
    (releaseIfFinished p s).tag p = if r.finished = true then none else some r := by
  split
  · rename_i hfinished
    rw [releaseIfFinished_of_finished h hfinished, tag_releaseRecord, if_pos rfl]
  · rename_i hfinished
    rw [releaseIfFinished_of_unfinished h hfinished, h]

/-- A record that is answered as it ends is released, or DONE. -/
theorem position_answered {v : State} {x w : TagRecord} (a : Response)
    (hw : (releaseIfFinished p ((v.setTag p (some { x with position := .done, response := .sent })).respond a)).tag p = some w) :
    w.position = .done := by
  have live : ((v.setTag p (some { x with position := .done, response := .sent })).respond a).tag p =
      some { x with position := .done, response := .sent } := State.tag_setTag_self ..
  rw [tag_releaseIfFinished_self live] at hw
  split at hw
  · cases hw
  · rw [← Option.some_inj.1 hw]

/-- The record of a grant is no longer WAITING. -/
theorem position_grantRecord (h : Grants p r pl s u) (w : TagRecord) (hw : u.tag p = some w) : w.position ≠ .waiting := by
  have done (h : w.position = .done) : w.position ≠ .waiting := by simp [h]
  cases h with
  | opens =>
    rw [← Option.some_inj.1 ((State.tag_setTag_self ..).symm.trans hw)]
    exact nofun
  | refuses => exact done (position_answered _ hw)
  | served v => exact done (position_answered _ hw)
  | full _ _ _ hv =>
    rw [hv, tag_consumeAll_granted] at hw
    rw [← Option.some_inj.1 hw]
    exact nofun
  | captures v e => exact done (position_answered _ hw)
  | fills v e =>
    rw [← Option.some_inj.1 ((State.tag_setTag_self ..).symm.trans hw)]
    exact nofun

theorem pointer_settle (s u : State) : (settle s u).pointer = u.pointer := by
  obtain ⟨_, _, _, _, _, _, _, _, _, _, h⟩ := settle_only s u
  rw [h]

theorem pointer_grantRecord (s : State) (p : Pair) (r : TagRecord) (pl : Place) :
    (grantRecord p r pl s).pointer = p.initiator + 1 := by
  obtain ⟨_, ⟨_, _, _, _, _, _, _, _, _, rfl⟩, h⟩ := grantRecord_only s p r pl
  rw [h]

theorem exec_grant_of_none (h : s.access.isSome = true ∨ ∀ p : Pair, s.eligible p = false) : exec .grant s = .next s := by
  change execGrant s = _
  unfold execGrant
  split
  · rfl
  · rename_i hidle
    have none_eligible := h.resolve_left (by simp [hidle])
    rw [State.firstInTurn_eq_none s none_eligible]

end

/-- Settles O30: the grant takes the first in turn of those that are eligible. -/
theorem grantsAreInTurn : Obligations.GrantsAreInTurn := by
  intro s
  refine ⟨exec_grant_of_none, fun hidle ⟨q, hq⟩ => ?_, fun p => State.eligible_iff, rfl, fun pl size count => ?_⟩
  · obtain ⟨p, hfirst⟩ := s.firstInTurn_isSome hq
    obtain ⟨heligible, hturn⟩ := s.firstInTurn_spec hfirst
    obtain ⟨r, pl, hr, hpl, -⟩ := State.eligible_iff.1 heligible
    refine ⟨_, p, r, exec_grant_of_first hidle hfirst hr hpl, heligible, hr, ?_, fun w hw => ?_, fun x v hx hv => ?_⟩
    · rw [pointer_settle, pointer_grantRecord]
    · have granted := grants_grantRecord s p r pl
      obtain hsame | ⟨hgone, -⟩ := tag_settle s (grantRecord p r pl s) p
      · rw [hsame] at hw
        exact position_grantRecord granted w hw
      · rw [hgone] at hw
        cases hw
    · obtain ⟨hinitiator, horder⟩ := hturn x hx
      rw [State.orderOf_eq s hr, State.orderOf_eq s hv] at horder
      exact ⟨hinitiator, horder⟩
  · rw [State.effectiveFree]
    refine congrArg _ (List.countP_congr fun t ht => ?_)
    rw [empties_iff ht, decide_eq_true_iff]

/-! ## The access that a grant opens (R148 to R151) -/

section
variable {p : Pair} {r : TagRecord} {pl : Place}

/-- The strobe that a grant drives, written out: its data lines are a write's value on its lanes, or zero. -/
def firstStrobe (r : TagRecord) (pl : Place) (first : Nat) : Strobe :=
  { write := !r.reads, select := pl.select, address := BitVec.ofNat 28 (beatAddress pl r.size first)
    lanes := laneMask r.size (beatAddress pl r.size first)
    lines := if r.reads then 0 else r.data.getD first 0 <<< (8 * (beatAddress pl r.size first % 4)) }

/-- The access that a grant opens, its first target beat in flight. -/
def firstAccess (s : State) (p : Pair) (r : TagRecord) (pl : Place) (first : Nat) (e : Option EntryIx) : Access :=
  { pair := p, live := true, kind := if r.reads then .read else .write, place := pl, size := r.size, first := first
    count := r.count, next := first + 1, limit := s.waitLimits[pl.select]
    flight := some ⟨first, s.waitLimits[pl.select].toNat⟩, entry := e, buffer := [] }

theorem openAccess_eq {first : Nat} {e : Option EntryIx} (hr : s.tag p = some r) : openAccess p r pl first e s =
    { s with access := some (firstAccess s p r pl first e), strobes := s.strobes ++ [firstStrobe r pl first] } := by
  have strobe : beatStrobe { firstAccess s p r pl first e with next := first, flight := none } first s =
      firstStrobe r pl first := by
    unfold beatStrobe firstStrobe firstAccess
    cases hreads : r.reads with
    | true => rfl
    | false =>
      simp only [hr]
      rfl
  exact congrArg (fun b => { s with access := some (firstAccess s p r pl first e), strobes := s.strobes ++ [b] }) strobe

theorem reads_eq (r : TagRecord) : r.reads = decide (r.kind = .read ∨ r.kind = .lockRead) := by
  rw [TagRecord.reads, Bool.decide_or]

/-- A guarded read that strands do not serve wholly is given the lowest entry that is FREE once they are consumed. -/
theorem grantRecord_of_left {u : State} {e : EntryIx} (hguarded : IsGuarded r pl) (hagree : NoConflict s r pl)
    (hu : consumeAll (s.consumption pl r.size r.count) s = u)
    (hleft : (takenBeats (s.consumption pl r.size r.count)).length < r.count) (hfree : u.lowestFree = some e) :
    grantRecord p r pl s = openAccess p { r with position := .issued, entry := some e } pl
      (takenBeats (s.consumption pl r.size r.count)).length (some e)
      ((giveEntry e (allocated r pl (takenBeats (s.consumption pl r.size r.count))
        (.filling (some p) (r.count - (takenBeats (s.consumption pl r.size r.count)).length)) u) (u.granted p r)).setTag p
          (some { r with position := .issued, entry := some e })) := by
  have granted : consumeAll (s.consumption pl r.size r.count) (s.granted p r) = u.granted p r := by
    rw [consumeAll_granted, hu]
  have hfree' : (u.granted p r).lowestFree = some e := hfree
  have h := grants_grantRecord s p r pl
  generalize grantRecord p r pl s = v at h
  cases h with
  | opens hplain => exact absurd hguarded hplain
  | refuses _ hconflict => exact absurd (conflicts_eq_nil_iff.2 hagree) hconflict
  | served _ _ _ _ hserved => exact absurd hserved (Nat.not_le.2 hleft)
  | full _ _ _ hv hfull =>
    rw [hv, granted] at hfull
    cases hfull.symm.trans hfree'
  | captures _ _ _ _ _ _ hserved => exact absurd hserved (Nat.not_le.2 hleft)
  | fills w d _ _ hv hd =>
    obtain rfl : w = u.granted p r := hv.trans granted
    obtain rfl : d = e := Option.some_inj.1 (hd.symm.trans hfree')
    rfl

/-- The state that opening the access of a guarded read leaves, in terms of the states before and after the consumption. -/
theorem openAccess_filling {u : State} {e : EntryIx} {beats : List Word} {state : EntryState}
    (hlimits : u.waitLimits = s.waitLimits) (hstrobes : u.strobes = s.strobes) (hallocations : u.allocations = s.allocations) :
    openAccess p { r with position := .issued, entry := some e } pl beats.length (some e)
      ((giveEntry e (allocated r pl beats state u) (u.granted p r)).setTag p
        (some { r with position := .issued, entry := some e })) =
      { (u.setTag p (some { r with position := .issued, entry := some e })).setEntry e
          (some { allocated r pl beats state s with allocation := s.allocations }) with
        allocations := s.allocations + 1, pointer := p.initiator + 1
        access := some (firstAccess s p r pl beats.length (some e))
        strobes := s.strobes ++ [firstStrobe r pl beats.length] } := by
  have again : (giveEntry e (allocated r pl beats state u) (u.granted p r)).setTag p
      (some { r with position := .issued, entry := some e }) = giveEntry e (allocated r pl beats state u)
        ({ u with pointer := p.initiator + 1 }.setTag p (some { r with position := .issued, entry := some e })) :=
    congrArg (giveEntry e _) (State.setTag_granted (s := u) _)
  have live : (giveEntry e (allocated r pl beats state u) ({ u with pointer := p.initiator + 1 }.setTag p
      (some { r with position := .issued, entry := some e }))).tag p = some { r with position := .issued, entry := some e } :=
    State.tag_setTag_self ..
  rw [again, openAccess_eq live]
  simp only [firstAccess, giveEntry, allocated, State.setEntry, State.setTag, hlimits, hstrobes, hallocations]
  rfl

/-- Settles O31: a read of a PASS region or a write opens its access at beat 0, a guarded read that strands do not serve wholly
after the beats that they give it. -/
theorem grantsOpenTheAccess : Obligations.GrantsOpenTheAccess := by
  intro p r pl s hidle hfirst hr hpl reads opened
  have reads_same : r.reads = reads := reads_eq r
  rw [exec_grant_of_first hidle hfirst hr hpl]
  refine ⟨fun hplain => congrArg _ (congrArg _ ?_), fun hguarded hagree => ?_⟩
  · have plain : grantRecord p r pl s = openAccess p { r with position := .issued } pl 0 none (s.granted p r) :=
      if_neg (mt TagRecord.guarded_iff.1 hplain)
    have live : (s.granted p r).tag p = some { r with position := .issued } := State.tag_setTag_self ..
    rw [plain, openAccess_eq live]
    simp only [opened, ← reads_same]
    rfl
  · intro beats u e hleft hfree hlowest
    obtain ⟨limits, driven, given⟩ : u.waitLimits = s.waitLimits ∧ u.strobes = s.strobes ∧ u.allocations = s.allocations := by
      obtain ⟨es, hes⟩ := consumeAll_only s (s.consumption pl r.size r.count)
      change (consumeAll _ s).waitLimits = _ ∧ (consumeAll _ s).strobes = _ ∧ (consumeAll _ s).allocations = _
      rw [hes]
      exact ⟨rfl, rfl, rfl⟩
    rw [grantRecord_of_left (u := u) hguarded hagree rfl hleft (State.lowestFree_eq_some_iff.2 ⟨hfree, hlowest⟩)]
    refine congrArg _ (congrArg _ ?_)
    rw [openAccess_filling limits driven given]
    simp only [opened, ← reads_same]
    rfl

end

end

end Sys2Proof.Machine
end

section
/-! SUPPORT. The beat in flight that is ready: what it leaves of a live read, of a write and of a read that has been removed;
and the statements about the beats of PASS and guarded reads, of writes, and of removed reads. -/

namespace Sys2Proof.Machine

/-! ## The value of a read beat (R151) -/

theorem fromLines_eq (size : BeatSize) (address : Nat) (lines : Word) : fromLines size address lines =
    BitVec.ofNat 32 (lines.toNat / 2 ^ (8 * (address % 4)) % 2 ^ (8 * size.bytes)) := by
  rw [fromLines, beatValue, BitVec.toNat_ushiftRight, Nat.shiftRight_eq_div_pow]

/-! ## Ready (R152) -/

section
variable {s : State} {a : Access} {f : Flight} {lines : Word}

theorem exec_ready (haccess : s.access = some a) (hflight : a.flight = some f) :
    exec (.targetReady lines) s = .next (settle s (beatReady a f.beat lines s)) := by
  change execTargetReady lines s = _
  simp only [execTargetReady, haccess, hflight]

theorem Access.isLast_of_le {b : Nat} (h : a.count ≤ b + 1) : a.isLast b = true := decide_eq_true h

theorem Access.isLast_of_lt {b : Nat} (h : b + 1 < a.count) : a.isLast b = false := decide_eq_false (Nat.not_le.2 h)

/-- The value that the beat in flight of an access gets from the data lines. -/
abbrev Access.value (a : Access) (b : Nat) (lines : Word) : Word :=
  fromLines a.size (beatAddress a.place a.size b) lines

theorem beatReady_of_live_read (hkind : a.kind = .read) (hlive : a.live = true) (b : Nat) :
    beatReady a b lines s = readBeat a b (a.value b lines) s := by
  simp only [beatReady, hkind, hlive, if_true]

theorem beatReady_of_removed (hkind : a.kind = .read) (hlive : a.live = false) (b : Nat) :
    beatReady a b lines s = endRemoved a (some (a.value b lines)) (s.setAccess none) := by
  simp only [beatReady, hkind, hlive, Bool.false_eq_true, if_false]

theorem beatReady_of_write (hkind : a.kind = .write) (b : Nat) : beatReady a b lines s = writtenBeat a b s := by
  simp only [beatReady, hkind]

/-- What the sequencer does with an access leaves what is due, and what the latch follows, as it is. -/
theorem settle_setAccess (hsettled : Settled s) (x : Option Access) : settle s (s.setAccess x) = s.setAccess x := by
  rw [settle_of_settled s (u := s.setAccess x) hsettled]
  exact followLatch_of_same (fun _ h => h) rfl

theorem readBeat_of_no_entry (hentry : a.entry = none) (b : Nat) (v : Word) : readBeat a b v s =
    if a.isLast b then endRead { a with buffer := a.buffer ++ [v] } none (s.setAccess none)
    else s.setAccess (some { a with flight := none, buffer := a.buffer ++ [v] }) := by
  unfold readBeat
  split
  · rename_i e he
    cases he.symm.trans hentry
  · rfl

theorem readBeat_of_entry {e : EntryIx} (hentry : a.entry = some e) (b : Nat) (v : Word) : readBeat a b v s =
    if a.isLast b then endRead a none (appendBeat e v (s.setAccess none))
    else appendBeat e v (s.setAccess (some { a with flight := none })) := by
  unfold readBeat
  split
  · rename_i d hd
    cases hd.symm.trans hentry
    rfl
  · rename_i hnone
    cases hnone.symm.trans hentry

end

/-- Settles O37: the beat joins the read buffer, and the last one is the end of a live read without an entry. -/
theorem passBeatsAreDelivered : Obligations.PassBeatsAreDelivered := by
  refine ⟨fromLines_eq, fun a f r lines s hlaw hsettled haccess hflight hkind hlive hentry hrecord => ?_⟩
  intro beats status u
  have hready : exec (.targetReady lines) s = .next (settle s (readBeat a f.beat (a.value f.beat lines) s)) := by
    rw [exec_ready haccess hflight, beatReady_of_live_read hkind hlive]
  refine ⟨fun hmore => ?_, fun hlast => ?_⟩
  · rw [hready, readBeat_of_no_entry hentry, Access.isLast_of_lt hmore]
    exact congrArg Host.Outcome.next (settle_setAccess hsettled _)
  · have hdata : (s.setAccess none).readAnswered { a with buffer := beats } r none beats = u := by
      change (s.setAccess none).respond (.data a.pair status a.first beats) = u
      rw [AccessLaw.first_eq_zero hlaw haccess hentry]
    rw [hready, readBeat_of_no_entry hentry, Access.isLast_of_le hlast, if_pos rfl,
      endRead_of_no_entry (a := { a with buffer := beats }) (s := s.setAccess none) hrecord hentry, hdata]

/-! ## The beats of guarded reads (R73, R74) -/

section
variable {s : State} {e : EntryIx} {c : CaptureEntry}

theorem appendBeat_of_held (h : s.entries[e] = some c) (v : Word) :
    appendBeat e v s = s.setEntry e (some { c with beats := c.beats ++ [v] }) := by
  simp only [appendBeat, h]

theorem State.setEntry_setEntry (s : State) (e : EntryIx) (c d : Option CaptureEntry) :
    (s.setEntry e c).setEntry e d = s.setEntry e d := by
  simp only [State.setEntry, Vector.set_set]

end

/-- Settles O38: the beat joins the entry, and the last one is the end of a live read whose entry holds a beat. A COMMITTED
read's entry is freed by its release, so the beat that joined it is only in the answer. -/
theorem guardedBeatsFillTheEntry : Obligations.GuardedBeatsFillTheEntry := by
  rintro a f r e c lines s ⟨-, -, -, -, hbinding⟩ haccess hflight hkind hlive hentry hheld hrecord
  intro beats status done
  obtain ⟨-, -, hbound⟩ := hbinding
  obtain ⟨-, hsame⟩ := hbound a haccess
  have hown : r.entry = some e := (hsame hlive r hrecord).trans hentry
  have hready : exec (.targetReady lines) s = .next (settle s (readBeat a f.beat (a.value f.beat lines) s)) := by
    rw [exec_ready haccess hflight, beatReady_of_live_read hkind hlive]
  let filled : State := (s.setAccess none).setEntry e (some { c with beats := beats })
  have hfilled : filled.entries[e] = some { c with beats := beats } := State.entries_setEntry_self ..
  have hlastBeat (hlast : a.count ≤ f.beat + 1) :
      exec (.targetReady lines) s = .next (settle s (endRead a none filled)) := by
    rw [hready, readBeat_of_entry hentry, Access.isLast_of_le hlast, if_pos rfl, appendBeat_of_held (s := s.setAccess none) hheld]
  refine ⟨fun hmore => ?_, fun hlast hverdict => ?_, fun hlast hverdict => ?_⟩
  · rw [hready, readBeat_of_entry hentry, Access.isLast_of_lt hmore, if_neg Bool.false_ne_true,
      appendBeat_of_held (s := s.setAccess (some { a with flight := none })) hheld]
  · have hfreed : releaseRecord a.pair r (filled.readAnswered a r none beats) = releaseRecord a.pair r done := by
      rw [releaseRecord, releaseRecord, freeEntryOf, freeEntryOf, hown]
      exact congrArg (clearLockRead a.pair) (State.setEntry_setEntry (done.setTag a.pair none) e _ none)
    rw [hlastBeat hlast, endRead_of_committed (s := filled) hrecord hentry hfilled hverdict, hfreed]
  · have hholds : ({ c with beats := beats } : CaptureEntry).beats ≠ [] := List.append_ne_nil_of_right_ne_nil _ (by simp)
    rw [hlastBeat hlast, endRead_of_uncommitted_of_held (s := filled) hrecord hentry hfilled hverdict hholds]
    exact congrArg (fun u => Host.Outcome.next (settle s u)) (State.setEntry_setEntry
      (done.setTag a.pair (some { r with position := .done, response := .sent })) e _ _)

/-! ## The beats of writes (R119, R123, R138) -/

/-- Settles O39: the last beat is the end of a write, whose record the laws make COMMITTED and bare. -/
theorem writtenBeatsRelease : Obligations.WrittenBeatsRelease := by
  rintro a f r lines s ⟨hlock, haccessLaw, hnames, -, hbinding⟩ haccess hflight hkind hrecord
  have hlive : a.live = true := by
    obtain ⟨-, hopen⟩ := haccessLaw
    obtain ⟨-, hwrite, -⟩ := hopen a haccess
    exact hwrite hkind
  have hverdict := AccessLaw.committed_of_write haccessLaw haccess hlive hkind hrecord
  have hbare := BindingLaw.entry_eq_none_of_write hbinding haccess hlive hkind hrecord
  have hidle : (s.setAccess none).tag a.pair = some r := hrecord
  have hready : exec (.targetReady lines) s = .next (settle s (writtenBeat a f.beat s)) := by
    rw [exec_ready haccess hflight, beatReady_of_write hkind]
  refine ⟨fun hmore => ?_, fun hlast => ⟨fun hwrite => ?_, fun k v hlockWrite hslot hinitiator hwriting => ?_⟩⟩
  · rw [hready, writtenBeat, Access.isLast_of_lt hmore]
    rfl
  · rw [hready, writtenBeat, Access.isLast_of_le hlast, if_pos rfl, endWrite_of_write hidle hverdict hbare hnames hwrite]
  · rw [hready, writtenBeat, Access.isLast_of_le hlast, if_pos rfl,
      endWrite_of_lockWrite hidle hverdict hbare hnames hlockWrite hlock hslot hinitiator hwriting]

/-! ## The beat in flight of a removed read (R79, R154 to R156) -/

section
variable {s : State} {a : Access} {e : EntryIx} {c : CaptureEntry}

/-- The strand that an entry becomes: unbound, with the next strand sequence number and a fresh timer of its window, none for
a window of 0 (R77, R91, R102). -/
abbrev CaptureEntry.stranded (c : CaptureEntry) (n : Nat) : CaptureEntry :=
  { c with state := .stranded n (if c.window = 0 then none else some c.window.toNat) }

/-- The entry becomes the strand that its fields make. -/
abbrev State.madeStrand (s : State) (e : EntryIx) (c : CaptureEntry) : State :=
  { s.setEntry e (some (c.stranded s.strandCounter)) with strandCounter := s.strandCounter + 1 }

theorem strandEntry_of_held (h : s.entries[e] = some c) : strandEntry e s = s.madeStrand e c := by
  simp only [strandEntry, h]

theorem endUnbound_of_empty (h : s.entries[e] = some c) (hbeats : c.beats = []) : endUnbound e s = s.setEntry e none := by
  simp only [endUnbound, h, hbeats, if_true]

theorem endUnbound_of_held (h : s.entries[e] = some c) (hbeats : c.beats ≠ []) : endUnbound e s = s.madeStrand e c := by
  simp only [endUnbound, h, hbeats, if_false]
  exact strandEntry_of_held h

/-- The beat that was obtained joins the entry, which becomes a strand. -/
theorem endUnbound_appendBeat (h : s.entries[e] = some c) (v : Word) :
    endUnbound e (appendBeat e v s) = s.madeStrand e { c with beats := c.beats ++ [v] } := by
  rw [appendBeat_of_held h, endUnbound_of_held (s.entries_setEntry_self e _) (by simp)]
  exact congrArg (fun u : State => { u with strandCounter := s.strandCounter + 1 }) (State.setEntry_setEntry s e _ _)

theorem beatFails_of_removed (hkind : a.kind = .read) (hlive : a.live = false) (b : Nat) (timeout : Bool) :
    beatFails a b timeout s = (endRemoved a none (s.setAccess none)).raise
      (recordEvent .readFault a.pair a.place (b - a.first) (timeout.toNat + 2)) := by
  simp only [beatFails, hkind, hlive, Bool.false_eq_true, if_false]

end

/-- Settles O41: whether the beat was obtained or failed, the access is closed, and the fill of its entry is over. -/
theorem removedReadsStrand : Obligations.RemovedReadsStrand := by
  intro a f lines cause failure s haccess hflight hkind hlive hcause idle event strand
  have hready : exec (.targetReady lines) s = .next (settle s (endRemoved a (some (a.value f.beat lines)) idle)) := by
    rw [exec_ready haccess hflight, beatReady_of_removed hkind hlive]
  have hfailure : exec failure s = .next (settle s (event (endRemoved a none idle))) := by
    obtain ⟨n, rfl⟩ : ∃ n, cause = n + 2 := ⟨cause - 2, by omega⟩
    have hcause' : (n = 0 ∧ ∃ ready : Bool, failure = .targetError ready) ∨
        (n = 1 ∧ failure = .waitTimerExpiry ∧ f.timer = 0) :=
      hcause.imp (And.imp_left fun h => by omega) (And.imp_left fun h => by omega)
    obtain ⟨timeout, rfl, hexec⟩ := exec_of_failed_beat haccess hflight hcause'
    rw [hexec, beatFails_of_removed hkind hlive]
    rfl
  refine ⟨fun hentry => ?_, fun e c hentry hheld => ?_⟩
  · rw [hready, hfailure, endRemoved, endRemoved, hentry]
    exact ⟨rfl, rfl⟩
  · have hheld' : idle.entries[e] = some c := hheld
    rw [hready, hfailure, endRemoved, endRemoved, hentry]
    refine ⟨?_, fun hbeats => ?_, fun hbeats => ?_⟩
    · exact congrArg (fun u => Host.Outcome.next (settle s u)) (endUnbound_appendBeat hheld' _)
    · exact congrArg (fun u => Host.Outcome.next (settle s (event u))) (endUnbound_of_held hheld' hbeats)
    · exact congrArg (fun u => Host.Outcome.next (settle s (event u))) (endUnbound_of_empty hheld' hbeats)

end Sys2Proof.Machine
end

section
/-! SUPPORT. What a removal makes of the capture entries and of the open access: the CAPTURED entries of the removed records
become strands in the order of their allocation, then the open access ends or is marked removed, and its entry with it
(R77 to R79, R92, R156). -/

namespace Sys2Proof.Machine

/-! ## Entries that become strands one after the other (R91, R92) -/

section
variable {s : State}

/-- The entries take the strand sequence numbers from the counter on, in the order of the list. -/
theorem strandEntry_foldl {l : List Numbered} (hnodup : (l.map (·.1)).Nodup)
    (hheld : ∀ x ∈ l, s.entries[x.1] = some x.2) :
    (l.foldl (fun t x => strandEntry x.1 t) s).strandCounter = s.strandCounter + l.length ∧
    (∀ e : EntryIx, e ∉ l.map (·.1) → (l.foldl (fun t x => strandEntry x.1 t) s).entries[e] = s.entries[e]) ∧
    ∀ (j : Nat) (x : Numbered), l[j]? = some x →
      (l.foldl (fun t x => strandEntry x.1 t) s).entries[x.1] = some (x.2.stranded (s.strandCounter + j)) := by
  induction l generalizing s with
  | nil => simp
  | cons y ys ih =>
    obtain ⟨hfresh, hrest⟩ := List.nodup_cons.1 hnodup
    have hfirst : strandEntry y.1 s = s.madeStrand y.1 y.2 := strandEntry_of_held (hheld y (by simp))
    have hother (e : EntryIx) (he : e ≠ y.1) : (s.madeStrand y.1 y.2).entries[e] = s.entries[e] := by
      change (s.setEntry y.1 _).entries[e] = _
      rw [State.entries_setEntry, if_neg he]
    have hheld' (x : Numbered) (hx : x ∈ ys) : (s.madeStrand y.1 y.2).entries[x.1] = some x.2 := by
      rw [hother x.1 fun h => hfresh (List.mem_map.2 ⟨x, hx, h⟩)]
      exact hheld x (List.mem_cons_of_mem y hx)
    obtain ⟨hcounter, houtside, hinside⟩ := ih hrest hheld'
    rw [List.foldl_cons, hfirst]
    refine ⟨?_, fun e he => ?_, fun j x hj => ?_⟩
    · rw [hcounter, List.length_cons]
      change s.strandCounter + 1 + ys.length = _
      omega
    · rw [List.map_cons, List.mem_cons, not_or] at he
      rw [houtside e he.2, hother e he.1]
    · cases j with
      | zero =>
        obtain rfl : y = x := by simpa using hj
        rw [houtside y.1 hfresh]
        exact State.entries_setEntry_self ..
      | succ j =>
        rw [hinside j x (by simpa using hj)]
        change some (x.2.stranded (s.strandCounter + 1 + j)) = _
        rw [Nat.add_right_comm, Nat.add_assoc]

end

/-! ## The entries that a removal leaves (R77, R92) -/

/-- The entry is the pair's that is removed, and CAPTURED. -/
theorem State.mem_capturedBy_iff {s : State} {gone : Pair → Bool} {x : Numbered} :
    x ∈ s.capturedBy gone ↔ s.entries[x.1] = some x.2 ∧ ∃ q : Pair, x.2.state = .captured q ∧ gone q = true := by
  rw [State.capturedBy, State.mem_entriesWhere]
  refine and_congr_right fun _ => ?_
  cases x.2.state <;> simp

/-- The sequence number that the entry has, if it is a strand. -/
def State.strandNumber (u : State) (e : EntryIx) : Nat := (u.entries[e]).elim 0 CaptureEntry.sequence

/-- `u` has the entries and the strand sequence counter that stranding the entries of the list, one after the other, leaves
of those of `s`, and of the others what the removal leaves, which makes no strand of them. -/
structure StrandsListed (gone : Pair → Bool) (s u : State) (l : List Numbered) : Prop where
  nodup : (l.map (·.1)).Nodup
  counter : u.strandCounter = s.strandCounter + l.length
  listed : ∀ (j : Nat) (x : Numbered), l[j]? = some x → s.entries[x.1] = some x.2 ∧ x.2.isStrand = false ∧
    u.entries[x.1] = some (x.2.stranded (s.strandCounter + j)) ∧
    ∀ n : Nat, entryAfterRemoval s gone n x.2 = some (x.2.stranded n)
  others : ∀ e : EntryIx, e ∉ l.map (·.1) → ¬Strands s u e ∧
    ∀ n : Nat, u.entries[e] = (s.entries[e]).bind (entryAfterRemoval s gone n)
  ordered : l.Pairwise fun y x => x.2.isCaptured = true → y.2.isFilling = false ∧ y.2.allocation ≤ x.2.allocation

namespace StrandsListed

variable {gone : Pair → Bool} {s u : State} {l : List Numbered} (h : StrandsListed gone s u l)
include h

theorem strands_iff {e : EntryIx} : Strands s u e ↔ e ∈ l.map (·.1) := by
  refine ⟨fun hnew => by_contra fun hout => (h.others e hout).1 hnew, fun hin => ?_⟩
  obtain ⟨x, hx, rfl⟩ := List.mem_map.1 hin
  obtain ⟨j, hj⟩ := List.mem_iff_getElem?.1 hx
  obtain ⟨hheld, hnot, hstrand, -⟩ := h.listed j x hj
  rw [Strands, hheld, hstrand]
  exact ⟨rfl, hnot⟩

theorem countP_strands : (List.finRange 32).countP (fun e : EntryIx => decide (Strands s u e)) = l.length := by
  have same : ((List.finRange 32).filter fun e : EntryIx => decide (Strands s u e)).Perm (l.map (·.1)) := by
    rw [List.perm_ext_iff_of_nodup ((List.nodup_finRange 32).filter _) h.nodup]
    intro e
    rw [List.mem_filter, decide_eq_true_iff, h.strands_iff]
    exact and_iff_right (List.mem_finRange e)
  rw [List.countP_eq_length_filter, same.length_eq, List.length_map]

theorem strandNumber_of_listed {j : Nat} {x : Numbered} (hj : l[j]? = some x) :
    u.strandNumber x.1 = s.strandCounter + j := by
  obtain ⟨-, -, hstrand, -⟩ := h.listed j x hj
  rw [State.strandNumber, hstrand]
  rfl

theorem exists_index {e : EntryIx} (he : Strands s u e) :
    ∃ (j : Nat) (x : Numbered), l[j]? = some x ∧ x.1 = e ∧ s.entries[e] = some x.2 := by
  obtain ⟨x, hx, rfl⟩ := List.mem_map.1 (h.strands_iff.1 he)
  obtain ⟨j, hj⟩ := List.mem_iff_getElem?.1 hx
  exact ⟨j, x, hj, rfl, (h.listed j x hj).1⟩

theorem entriesLeft : EntriesLeft gone s u := by
  refine ⟨u.strandNumber, fun e => ?_, ?_, fun e he => ?_, fun e d he hd hsame => ?_,
    fun e d he hd c hc b hb hcaptured hlater => ?_⟩
  · by_cases he : e ∈ l.map (·.1)
    · obtain ⟨j, x, hj, rfl, hheld⟩ := h.exists_index (h.strands_iff.2 he)
      obtain ⟨-, -, hstrand, hafter⟩ := h.listed j x hj
      rw [h.strandNumber_of_listed hj, hheld, Option.bind_some, hafter, hstrand]
    · exact (h.others e he).2 _
  · rw [h.countP_strands, h.counter]
  · obtain ⟨j, x, hj, rfl, -⟩ := h.exists_index he
    have hbound : j < l.length := (List.getElem?_eq_some_iff.1 hj).1
    rw [h.strandNumber_of_listed hj, h.counter]
    omega
  · obtain ⟨j, x, hj, rfl, -⟩ := h.exists_index he
    obtain ⟨i, y, hi, rfl, -⟩ := h.exists_index hd
    have hindex : j = i := by
      rw [h.strandNumber_of_listed hj, h.strandNumber_of_listed hi] at hsame
      omega
    subst hindex
    rw [Option.some_inj.1 (hj.symm.trans hi)]
  · obtain ⟨j, x, hj, rfl, hx⟩ := h.exists_index he
    obtain ⟨i, y, hi, rfl, hy⟩ := h.exists_index hd
    obtain rfl : c = x.2 := Option.some_inj.1 (hc.symm.trans hx)
    obtain rfl : b = y.2 := Option.some_inj.1 (hb.symm.trans hy)
    rw [h.strandNumber_of_listed hj, h.strandNumber_of_listed hi, Nat.add_lt_add_iff_left]
    by_contra hnot
    obtain rfl | hlt := Nat.eq_or_lt_of_le (Nat.not_lt.1 hnot)
    · obtain rfl := Option.some_inj.1 (hj.symm.trans hi)
      obtain hfilling | hyounger := hlater
      · revert hcaptured hfilling
        cases hstate : x.2.state <;> simp [CaptureEntry.isCaptured, CaptureEntry.isFilling, hstate]
      · exact Nat.lt_irrefl _ hyounger
    · obtain ⟨hjl, rfl⟩ := List.getElem?_eq_some_iff.1 hj
      obtain ⟨hil, rfl⟩ := List.getElem?_eq_some_iff.1 hi
      obtain ⟨hnotFilling, holder⟩ := List.pairwise_iff_getElem.1 h.ordered i j hil hjl hlt hcaptured
      obtain hfilling | hyounger := hlater
      · simp [hnotFilling] at hfilling
      · omega

end StrandsListed

/-! ## The CAPTURED entries become strands -/

section
variable (gone : Pair → Bool) (s : State)

/-- The CAPTURED entries of the removed records, in the order of their allocation. -/
abbrev State.capturedInOrder (s : State) (gone : Pair → Bool) : List Numbered :=
  sortBy CaptureEntry.allocation (s.capturedBy gone)

theorem nodup_capturedInOrder : ((s.capturedInOrder gone).map (·.1)).Nodup :=
  ((perm_sortBy _ _).map _).nodup_iff.2 (nodup_entriesWhere s _)

theorem mem_capturedInOrder {x : Numbered} : x ∈ s.capturedInOrder gone ↔
    s.entries[x.1] = some x.2 ∧ ∃ q : Pair, x.2.state = .captured q ∧ gone q = true := by
  rw [mem_sortBy, State.mem_capturedBy_iff]

/-- The state with the CAPTURED entries of the removed records stranded. -/
abbrev State.allStranded (s : State) (gone : Pair → Bool) : State := strandAll (s.capturedBy gone) s

theorem allStranded_spec :
    (s.allStranded gone).strandCounter = s.strandCounter + (s.capturedInOrder gone).length ∧
    (∀ e : EntryIx, e ∉ (s.capturedInOrder gone).map (·.1) → (s.allStranded gone).entries[e] = s.entries[e]) ∧
    ∀ (j : Nat) (x : Numbered), (s.capturedInOrder gone)[j]? = some x →
      (s.allStranded gone).entries[x.1] = some (x.2.stranded (s.strandCounter + j)) :=
  strandEntry_foldl (nodup_capturedInOrder gone s) fun _ hx => ((mem_capturedInOrder gone s).1 hx).1

theorem access_allStranded : (s.allStranded gone).access = s.access := by
  obtain ⟨_, _, h⟩ := strandAll_only (s.capturedBy gone) s
  rw [State.allStranded, h]

theorem tag_allStranded (p : Pair) : (s.allStranded gone).tag p = s.tag p := by
  obtain ⟨_, _, h⟩ := strandAll_only (s.capturedBy gone) s
  rw [State.allStranded, h]
  rfl

theorem slots_allStranded : (s.allStranded gone).slots = s.slots := by
  obtain ⟨_, _, h⟩ := strandAll_only (s.capturedBy gone) s
  rw [State.allStranded, h]

end

/-! ## The open access ends (R79, R156) -/

/-- The removal of the records of the pairs has reached the open access. -/
def closeAccess (gone : Pair → Bool) (t : State) : State :=
  match t.access with
  | none => t
  | some a => if gone a.pair then endAccessOf a.pair t else t

section
variable {t : State} {a : Access} {p : Pair}

/-- The removal of a record that the open access is not open for, as a live read, leaves it. -/
theorem endAccessOf_of_other (h : ∀ a ∈ t.access, ¬(a.live = true ∧ a.pair = p ∧ a.kind = .read)) : endAccessOf p t = t := by
  unfold endAccessOf
  split
  · rfl
  · rename_i a ha
    rw [if_neg (h a ha)]

theorem access_unbound (t : State) (x : Option Access) (o : Option EntryIx) :
    (o.elim (t.setAccess x) fun e => unbindEntry e (t.setAccess x)).access = x := by
  cases o with
  | none => rfl
  | some e =>
    obtain ⟨_, h⟩ := unbindEntry_only e (t.setAccess x)
    rw [Option.elim_some, h]
    rfl

theorem access_ended (t : State) (x : Option Access) (o : Option EntryIx) :
    (o.elim (t.setAccess x) fun e => endUnbound e (t.setAccess x)).access = x := by
  cases o with
  | none => rfl
  | some e =>
    obtain ⟨_, _, h⟩ := endUnbound_only e (t.setAccess x)
    rw [Option.elim_some, h]
    rfl

theorem unbindEntry_of_filling {e : EntryIx} {c : CaptureEntry} {b : Option Pair} {n : Nat}
    (hheld : t.entries[e] = some c) (hstate : c.state = .filling b n) :
    unbindEntry e t = t.setEntry e (some { c with state := .filling none n }) := by
  simp only [unbindEntry, hheld, hstate]

section
variable (haccess : t.access = some a) (hlive : a.live = true) (hpair : a.pair = p) (hkind : a.kind = .read)
include haccess hlive hpair hkind

/-- With a beat in flight the access is marked removed and its entry unbound. -/
theorem endAccessOf_of_flight (hflight : a.flight.isSome = true) : endAccessOf p t =
    a.entry.elim (t.setAccess (some { a with live := false }))
      fun e => unbindEntry e (t.setAccess (some { a with live := false })) := by
  obtain ⟨f, hf⟩ := Option.isSome_iff_exists.1 hflight
  unfold endAccessOf
  simp only [haccess, hlive, hpair, hkind, and_self, if_true]
  split
  · cases he : a.entry <;> rfl
  · simp_all

theorem endAccessOf_of_bound_flight (hflight : a.flight.isSome = true) {e : EntryIx} {c : CaptureEntry} {b : Option Pair}
    {n : Nat} (hentry : a.entry = some e) (hheld : t.entries[e] = some c) (hstate : c.state = .filling b n) :
    endAccessOf p t = (t.setAccess (some { a with live := false })).setEntry e
      (some { c with state := .filling none n }) := by
  refine (endAccessOf_of_flight haccess hlive hpair hkind hflight).trans ?_
  refine (congrArg (Option.elim · _ _) hentry).trans ?_
  exact unbindEntry_of_filling (t := t.setAccess (some { a with live := false })) hheld hstate

/-- Without a beat in flight the access ends, and the fill of its entry with it. -/
theorem endAccessOf_of_no_flight (hflight : a.flight = none) : endAccessOf p t =
    a.entry.elim (t.setAccess none) fun e => endUnbound e (t.setAccess none) := by
  unfold endAccessOf
  simp only [haccess, hlive, hpair, hkind, hflight, and_self, if_true]
  cases a.entry <;> rfl

theorem access_endAccessOf : (endAccessOf p t).access = a.flight.map fun _ => { a with live := false } := by
  cases hflight : a.flight with
  | some f =>
    rw [endAccessOf_of_flight haccess hlive hpair hkind (by rw [hflight]; rfl), access_unbound]
    simp [hflight]
  | none =>
    rw [endAccessOf_of_no_flight haccess hlive hpair hkind hflight, access_ended]
    rfl

end

/-- Once it has ended or is marked removed, no further removal reaches the access. -/
theorem endAccessOf_foldl_of_not_live (h : ∀ a ∈ t.access, a.live = false) (l : List Pair) :
    l.foldl (fun t p => endAccessOf p t) t = t := by
  induction l with
  | nil => rfl
  | cons p l ih =>
    rw [List.foldl_cons, endAccessOf_of_other fun a ha hopen => by simp [h a ha] at hopen]
    exact ih

theorem endAccessOf_foldl (l : List Pair) (t : State) :
    l.foldl (fun t p => endAccessOf p t) t = closeAccess (fun p => l.contains p) t := by
  induction l with
  | nil =>
    unfold closeAccess
    split <;> rfl
  | cons p l ih =>
    rw [List.foldl_cons]
    by_cases hopen : ∃ a ∈ t.access, a.live = true ∧ a.pair = p ∧ a.kind = .read
    · obtain ⟨a, ha, hlive, rfl, hkind⟩ := hopen
      have hclosed : ∀ b ∈ (endAccessOf a.pair t).access, b.live = false := by
        rw [access_endAccessOf ha hlive rfl hkind]
        simp
      rw [endAccessOf_foldl_of_not_live hclosed, closeAccess, ha]
      simp
    · push Not at hopen
      have hother : ∀ a ∈ t.access, ¬(a.live = true ∧ a.pair = p ∧ a.kind = .read) :=
        fun a ha ⟨hlive, hpair, hkind⟩ => hopen a ha hlive hpair hkind
      rw [endAccessOf_of_other hother, ih]
      unfold closeAccess
      split
      · rfl
      · rename_i a ha
        by_cases hpair : a.pair = p
        · have hsame : endAccessOf a.pair t = t := by rw [hpair]; exact endAccessOf_of_other hother
          rw [hsame, ite_self, ite_self]
        · simp [hpair]

/-- The access after the removal (R156, R157). -/
theorem access_closeAccess (gone : Pair → Bool) (t : State) : (closeAccess gone t).access = t.access.bind fun a =>
    if a.live = true ∧ a.kind = .read ∧ gone a.pair = true then a.flight.map fun _ => { a with live := false }
    else some a := by
  unfold closeAccess
  split
  · rename_i hnone
    rw [hnone]
    rfl
  · rename_i a ha
    rw [ha, Option.bind_some]
    by_cases hopen : a.live = true ∧ a.kind = .read
    · by_cases hgone : gone a.pair = true
      · rw [if_pos hgone, if_pos ⟨hopen.1, hopen.2, hgone⟩, access_endAccessOf ha hopen.1 rfl hopen.2]
      · rw [if_neg hgone, if_neg fun h => hgone h.2.2, ha]
    · rw [if_neg (c := a.live = true ∧ a.kind = .read ∧ gone a.pair = true) fun h => hopen ⟨h.1, h.2.1⟩]
      split
      · rw [endAccessOf_of_other fun b hb h => ?_, ha]
        obtain rfl : a = b := Option.some_inj.1 (ha.symm.trans hb)
        exact hopen ⟨h.1, h.2.2⟩
      · exact ha

end

/-! ## The entries after the removal (R78, R79) -/

section
variable {gone : Pair → Bool} {s u : State} {e : EntryIx} {c : CaptureEntry}

theorem entryAfterRemoval_of_captured {q : Pair} (hstate : c.state = .captured q) (hgone : gone q = true) (n : Nat) :
    entryAfterRemoval s gone n c = some (c.stranded n) := by
  simp only [entryAfterRemoval, hstate, hgone, if_true]

/-- An entry that no removed record is bound to stays. -/
theorem entryAfterRemoval_of_unbound (h : ∀ p ∈ c.state.boundTo, gone p = false) (n : Nat) :
    entryAfterRemoval s gone n c = some c := by
  unfold entryAfterRemoval
  cases hstate : c.state with
  | stranded m t => rfl
  | captured q =>
    have hkept : gone q = false := h q (by simp [hstate, EntryState.boundTo])
    simp [hkept]
  | filling b m =>
    have hkept : b.any gone = false := by
      cases b with
      | none => rfl
      | some q => exact h q (by simp [hstate, EntryState.boundTo])
    simp [hkept]

/-- An entry that is as it was is no strand that it was not. -/
theorem not_strands_of_same (h : u.entries[e] = s.entries[e]) : ¬Strands s u e := by
  rintro ⟨hnow, hbefore⟩
  rw [h, hbefore] at hnow
  cases hnow

/-- A CAPTURED entry of a removed record, at its place in the order of allocation. -/
theorem listed_of_captured {j : Nat} {x : Numbered} (hj : (s.capturedInOrder gone)[j]? = some x)
    (hentries : ∀ e ∈ (s.capturedInOrder gone).map (·.1), u.entries[e] = (s.allStranded gone).entries[e]) :
    s.entries[x.1] = some x.2 ∧ x.2.isStrand = false ∧ u.entries[x.1] = some (x.2.stranded (s.strandCounter + j)) ∧
      ∀ n : Nat, entryAfterRemoval s gone n x.2 = some (x.2.stranded n) := by
  have hmem : x ∈ s.capturedInOrder gone := List.mem_of_getElem? hj
  obtain ⟨hheld, q, hstate, hgone⟩ := (mem_capturedInOrder gone s).1 hmem
  obtain ⟨-, -, hstranded⟩ := allStranded_spec gone s
  refine ⟨hheld, by simp [CaptureEntry.isStrand, hstate], ?_, entryAfterRemoval_of_captured hstate hgone⟩
  rw [hentries x.1 (List.mem_map_of_mem hmem)]
  exact hstranded j x hj

theorem ordered_captured : (s.capturedInOrder gone).Pairwise
    fun y x => x.2.isCaptured = true → y.2.isFilling = false ∧ y.2.allocation ≤ x.2.allocation := by
  refine (sorted_sortBy CaptureEntry.allocation (s.capturedBy gone)).imp_of_mem fun hy _ hle _ => ⟨?_, hle⟩
  obtain ⟨-, q, hstate, -⟩ := (mem_capturedInOrder gone s).1 hy
  simp [CaptureEntry.isFilling, hstate]

/-- Without a FILLING entry that becomes a strand, the strands are the CAPTURED entries. -/
theorem strandsListed_captured (hcounter : u.strandCounter = s.strandCounter + (s.capturedInOrder gone).length)
    (hentries : ∀ e ∈ (s.capturedInOrder gone).map (·.1), u.entries[e] = (s.allStranded gone).entries[e])
    (hothers : ∀ e : EntryIx, e ∉ (s.capturedInOrder gone).map (·.1) → ¬Strands s u e ∧
      ∀ n : Nat, u.entries[e] = (s.entries[e]).bind (entryAfterRemoval s gone n)) :
    StrandsListed gone s u (s.capturedInOrder gone) :=
  ⟨nodup_capturedInOrder gone s, hcounter, fun _ _ hj => listed_of_captured hj hentries, hothers, ordered_captured⟩

/-- A FILLING entry is not among the CAPTURED ones. -/
theorem filling_not_captured (hheld : s.entries[e] = some c) (hfilling : c.isFilling = true) :
    e ∉ (s.capturedInOrder gone).map (·.1) := by
  intro hin
  obtain ⟨x, hx, rfl⟩ := List.mem_map.1 hin
  obtain ⟨hheld', q, hstate, -⟩ := (mem_capturedInOrder gone s).1 hx
  obtain rfl : c = x.2 := Option.some_inj.1 (hheld.symm.trans hheld')
  simp [CaptureEntry.isFilling, hstate] at hfilling

/-- An entry that is neither CAPTURED for a removed record nor FILLING for one stays. -/
theorem kept_of_not_captured (hout : e ∉ (s.capturedInOrder gone).map (·.1))
    (hfill : ∀ c ∈ s.entries[e], ∀ (b : Option Pair) (m : Nat), c.state = .filling b m → b.any gone = false) (n : Nat) :
    (s.entries[e]).bind (entryAfterRemoval s gone n) = s.entries[e] := by
  cases hheld : s.entries[e] with
  | none => rfl
  | some c =>
    rw [Option.bind_some, entryAfterRemoval_of_unbound]
    intro p hp
    cases hstate : c.state with
    | stranded m t => simp [hstate, EntryState.boundTo] at hp
    | captured q =>
      obtain rfl : q = p := by simpa [hstate, EntryState.boundTo] using hp
      refine Bool.eq_false_iff.2 fun hgone => hout (List.mem_map.2 ⟨(e, c), ?_, rfl⟩)
      exact (mem_capturedInOrder gone s).2 ⟨hheld, q, hstate, hgone⟩
    | filling b m =>
      obtain rfl : b = some p := by simpa [hstate, EntryState.boundTo] using hp
      exact hfill c hheld (some p) m hstate

/-- With no FILLING entry that a removed record is bound to, the removal does nothing more to the entries. -/
theorem strandsListed_of_no_fill
    (hfill : ∀ e : EntryIx, ∀ c ∈ s.entries[e], ∀ (b : Option Pair) (m : Nat), c.state = .filling b m → b.any gone = false)
    (hcounter : u.strandCounter = (s.allStranded gone).strandCounter)
    (hentries : u.entries = (s.allStranded gone).entries) : StrandsListed gone s u (s.capturedInOrder gone) := by
  obtain ⟨hadvanced, houtside, -⟩ := allStranded_spec gone s
  refine strandsListed_captured (hcounter.trans hadvanced) (fun e _ => by rw [hentries]) fun e hout => ?_
  have hsame : u.entries[e] = s.entries[e] := by
    simp only [hentries]
    exact houtside e hout
  exact ⟨not_strands_of_same hsame, fun n => hsame.trans (kept_of_not_captured hout (hfill e) n).symm⟩

/-- The one FILLING entry `e` becomes no strand. -/
theorem strandsListed_of_filling (hheld : s.entries[e] = some c) (hfilling : c.isFilling = true)
    (hfill : ∀ d : EntryIx, d ≠ e → ∀ b ∈ s.entries[d], b.isFilling = false) {x : Option CaptureEntry}
    (hnot : x.any CaptureEntry.isStrand = false) (hafter : ∀ n : Nat, entryAfterRemoval s gone n c = x)
    (hcounter : u.strandCounter = (s.allStranded gone).strandCounter)
    (hentries : u.entries = ((s.allStranded gone).setEntry e x).entries) :
    StrandsListed gone s u (s.capturedInOrder gone) := by
  obtain ⟨hadvanced, houtside, -⟩ := allStranded_spec gone s
  have hout := filling_not_captured (gone := gone) hheld hfilling
  have hother (d : EntryIx) (hd : d ≠ e) : u.entries[d] = (s.allStranded gone).entries[d] := by
    simp only [hentries]
    rw [State.entries_setEntry, if_neg hd]
  have hown : u.entries[e] = x := by
    simp only [hentries]
    exact State.entries_setEntry_self ..
  refine strandsListed_captured (hcounter.trans hadvanced) (fun d hd => hother d fun h => hout (h ▸ hd)) fun d hd => ?_
  by_cases hde : d = e
  · subst hde
    refine ⟨fun hnew => ?_, fun n => by rw [hown, hheld, Option.bind_some, hafter]⟩
    rw [Strands, hown, hnot] at hnew
    cases hnew.1
  · have hsame : u.entries[d] = s.entries[d] := (hother d hde).trans (houtside d hd)
    refine ⟨not_strands_of_same hsame, fun n => hsame.trans (kept_of_not_captured hd (fun b hb o m hstate => ?_) n).symm⟩
    have hnone := hfill d hde b hb
    simp [CaptureEntry.isFilling, hstate] at hnone

/-- The one FILLING entry `e` becomes a strand, after the others. -/
theorem strandsListed_of_strand (hheld : s.entries[e] = some c) (hfilling : c.isFilling = true)
    (hfill : ∀ d : EntryIx, d ≠ e → ∀ b ∈ s.entries[d], b.isFilling = false)
    (hafter : ∀ n : Nat, entryAfterRemoval s gone n c = some (c.stranded n))
    (hcounter : u.strandCounter = (s.allStranded gone).strandCounter + 1)
    (hentries : u.entries = ((s.allStranded gone).madeStrand e c).entries) :
    StrandsListed gone s u (s.capturedInOrder gone ++ [(e, c)]) := by
  obtain ⟨hadvanced, houtside, -⟩ := allStranded_spec gone s
  have hout := filling_not_captured (gone := gone) hheld hfilling
  have hother (d : EntryIx) (hd : d ≠ e) : u.entries[d] = (s.allStranded gone).entries[d] := by
    simp only [hentries]
    change ((s.allStranded gone).setEntry e _).entries[d] = _
    rw [State.entries_setEntry, if_neg hd]
  have hown : u.entries[e] = some (c.stranded (s.allStranded gone).strandCounter) := by
    simp only [hentries]
    exact State.entries_setEntry_self ..
  have hnot : c.isStrand = false := by
    revert hfilling
    cases hstate : c.state <;> simp [CaptureEntry.isFilling, CaptureEntry.isStrand, hstate]
  have hnotCaptured : c.isCaptured = false := by
    revert hfilling
    cases hstate : c.state <;> simp [CaptureEntry.isFilling, CaptureEntry.isCaptured, hstate]
  refine ⟨?_, ?_, fun j x hj => ?_, fun d hd => ?_, ?_⟩
  · rw [List.map_append]
    refine (nodup_capturedInOrder gone s).append (by simp) ?_
    simpa using hout
  · rw [hcounter, hadvanced, List.length_append]
    rfl
  · rcases Nat.lt_or_ge j (s.capturedInOrder gone).length with hlt | hge
    · rw [List.getElem?_append_left hlt] at hj
      exact listed_of_captured hj fun d hd => hother d fun h => hout (h ▸ hd)
    · rw [List.getElem?_append_right hge] at hj
      obtain ⟨hzero, rfl⟩ : j - (s.capturedInOrder gone).length = 0 ∧ (e, c) = x := by
        cases hrest : j - (s.capturedInOrder gone).length with
        | zero => exact ⟨rfl, by simpa [hrest] using hj⟩
        | succ n => simp [hrest] at hj
      refine ⟨hheld, hnot, ?_, hafter⟩
      rw [hown, hadvanced, show j = (s.capturedInOrder gone).length by omega]
  · rw [List.map_append, List.mem_append, not_or] at hd
    have hde : d ≠ e := by simpa using hd.2
    have hsame : u.entries[d] = s.entries[d] := (hother d hde).trans (houtside d hd.1)
    refine ⟨not_strands_of_same hsame, fun n => hsame.trans (kept_of_not_captured hd.1 (fun b hb o m hstate => ?_) n).symm⟩
    have hnone := hfill d hde b hb
    simp [CaptureEntry.isFilling, hstate] at hnone
  · refine List.pairwise_append.2 ⟨ordered_captured, List.pairwise_singleton .., fun y hy x hx hcaptured => ?_⟩
    obtain rfl := List.mem_singleton.1 hx
    rw [hnotCaptured] at hcaptured
    cases hcaptured

end

/-! ## The removal of the records' entries, and the access (R79, R156) -/

section
variable {gone : Pair → Bool} {s : State}

/-- A FILLING entry is that of the open access, which is a read, and bound to its pair while its record lives. -/
theorem BindingLaw.of_filling (h : BindingLaw s) {e : EntryIx} {c : CaptureEntry} (hheld : s.entries[e] = some c)
    (hfilling : c.isFilling = true) : ∃ a, s.access = some a ∧ a.entry = some e ∧ a.kind = .read ∧ c.state.boundTo = a.binds := by
  obtain ⟨-, hentries, haccess⟩ := h
  obtain ⟨-, hopen⟩ := hentries e c hheld
  obtain ⟨a, ha, hentry⟩ := (Option.any_eq_true _ _).1 (hopen hfilling)
  rw [decide_eq_true_iff] at hentry
  obtain ⟨hbound, -⟩ := haccess a ha
  obtain ⟨hkind, hstate⟩ := hbound e hentry
  rw [hheld] at hstate
  have hboth : c.isFilling = true ∧ c.state.boundTo = a.binds := by simpa using hstate
  exact ⟨a, ha, hentry, hkind, hboth.2⟩

/-- The removal that does not reach the open access, which then is no live read of a removed record, leaves it. -/
theorem closeAccess_of_unreached {t : State}
    (hother : ∀ a ∈ t.access, ¬(a.live = true ∧ a.kind = .read ∧ gone a.pair = true)) : closeAccess gone t = t := by
  unfold closeAccess
  split
  · rfl
  · rename_i a ha
    split
    · rename_i hgone
      refine endAccessOf_of_other fun b hb hreach => ?_
      obtain rfl : a = b := Option.some_inj.1 (ha.symm.trans hb)
      exact hother a ha ⟨hreach.1, hreach.2.2, hgone⟩
    · rfl

/-- With the access unreached no FILLING entry is bound to a removed record, and the CAPTURED entries alone are strands. -/
theorem strandsListed_of_unreached (h : BindingLaw s)
    (hother : ∀ a ∈ s.access, ¬(a.live = true ∧ a.kind = .read ∧ gone a.pair = true)) :
    StrandsListed gone s (closeAccess gone (s.allStranded gone)) (s.capturedInOrder gone) := by
  rw [closeAccess_of_unreached fun a ha => hother a ((access_allStranded gone s).symm.trans ha)]
  refine strandsListed_of_no_fill (fun e c hheld b m hstate => ?_) rfl rfl
  obtain ⟨a, ha, -, hkind, hbound⟩ := h.of_filling hheld (by simp [CaptureEntry.isFilling, hstate])
  have hb : b = a.binds := by simpa [hstate, EntryState.boundTo] using hbound
  rw [hb, Access.binds]
  split
  · rename_i hlive
    exact Bool.eq_false_iff.2 fun hgone => hother a ha ⟨hlive, hkind, hgone⟩
  · rfl

section
variable (h : BindingLaw s) {a : Access} (ha : s.access = some a) (hlive : a.live = true) (hkind : a.kind = .read)
include h ha hlive

/-- A FILLING entry is that of the open access, and bound to its pair. -/
theorem BindingLaw.filling_of_live {e : EntryIx} {c : CaptureEntry} (hheld : s.entries[e] = some c)
    (hfilling : c.isFilling = true) : a.entry = some e ∧ c.state.boundTo = some a.pair := by
  obtain ⟨b, hb, hentry, -, hbound⟩ := h.of_filling hheld hfilling
  obtain rfl : a = b := Option.some_inj.1 (ha.symm.trans hb)
  exact ⟨hentry, by rw [hbound, Access.binds, if_pos hlive]⟩

/-- The entry of a live access is FILLING and bound to its pair. -/
theorem BindingLaw.entry_of_live {e : EntryIx} (hentry : a.entry = some e) :
    ∃ c m, s.entries[e] = some c ∧ c.isFilling = true ∧ c.state = .filling (some a.pair) m := by
  obtain ⟨-, hstate⟩ := (h.2.2 a ha).1 e hentry
  obtain ⟨c, hheld, hfillingBound⟩ := (Option.any_eq_true _ _).1 hstate
  obtain ⟨hfilling, hbound⟩ : c.isFilling = true ∧ c.state.boundTo = a.binds := by simpa using hfillingBound
  rw [Access.binds, if_pos hlive] at hbound
  obtain ⟨m, hstate⟩ : ∃ m, c.state = .filling (some a.pair) m := by
    revert hfilling hbound
    cases hstate : c.state <;> simp [CaptureEntry.isFilling, EntryState.boundTo, hstate]
  exact ⟨c, m, hheld, hfilling, hstate⟩

include hkind

/-- A read of a PASS region ends, or is marked removed, without a FILLING entry. -/
theorem strandsListed_of_bare_access (hentry : a.entry = none) :
    StrandsListed gone s (endAccessOf a.pair (s.allStranded gone)) (s.capturedInOrder gone) := by
  have hopen := (access_allStranded gone s).trans ha
  have hfill : ∀ e : EntryIx, ∀ c ∈ s.entries[e], ∀ (b : Option Pair) (m : Nat), c.state = .filling b m → b.any gone = false := by
    intro e c hc b m hstate
    obtain ⟨hmine, -⟩ := h.filling_of_live ha hlive hc (by simp [CaptureEntry.isFilling, hstate])
    rw [hentry] at hmine
    cases hmine
  cases hflight : a.flight with
  | some f =>
    rw [endAccessOf_of_flight hopen hlive rfl hkind (by rw [hflight]; rfl), hentry]
    exact strandsListed_of_no_fill hfill rfl rfl
  | none =>
    rw [endAccessOf_of_no_flight hopen hlive rfl hkind hflight, hentry]
    exact strandsListed_of_no_fill hfill rfl rfl

/-- The FILLING entry of a guarded read is unbound with a beat in flight, and becomes a strand, the last, or FREE with none. -/
theorem strandsListed_of_filling_access (hgone : gone a.pair = true) {e : EntryIx} (hentry : a.entry = some e) :
    ∃ l, StrandsListed gone s (endAccessOf a.pair (s.allStranded gone)) l := by
  have hopen := (access_allStranded gone s).trans ha
  obtain ⟨c, m, hheld, hfilling, hstate⟩ := h.entry_of_live ha hlive hentry
  have hfill (d : EntryIx) (hd : d ≠ e) (b : CaptureEntry) (hb : b ∈ s.entries[d]) : b.isFilling = false := by
    refine Bool.eq_false_iff.2 fun hfilling => hd ?_
    obtain ⟨hmine, -⟩ := h.filling_of_live ha hlive hb hfilling
    exact Option.some_inj.1 (hmine.symm.trans hentry)
  have hheld' : (s.allStranded gone).entries[e] = some c :=
    ((allStranded_spec gone s).2.1 e (filling_not_captured hheld hfilling)).trans hheld
  have hafter (n : Nat) : entryAfterRemoval s gone n c =
      if a.flight.isSome then some { c with state := .filling none m }
      else if c.beats = [] then none else some (c.stranded n) := by
    simp only [entryAfterRemoval, hstate, Option.any_some, hgone, if_true, ha]
  cases hflight : a.flight with
  | some f =>
    rw [endAccessOf_of_bound_flight hopen hlive rfl hkind (by rw [hflight]; rfl) hentry hheld' hstate]
    refine ⟨_, strandsListed_of_filling hheld hfilling hfill (x := some { c with state := .filling none m }) rfl
      (fun n => ?_) rfl rfl⟩
    rw [hafter, hflight]
    rfl
  | none =>
    rw [endAccessOf_of_no_flight hopen hlive rfl hkind hflight, hentry, Option.elim_some]
    by_cases hbeats : c.beats = []
    · rw [endUnbound_of_empty (s := (s.allStranded gone).setAccess none) hheld' hbeats]
      refine ⟨_, strandsListed_of_filling hheld hfilling hfill (x := none) rfl (fun n => ?_) rfl rfl⟩
      rw [hafter, hflight, if_pos hbeats]
      rfl
    · rw [endUnbound_of_held (s := (s.allStranded gone).setAccess none) hheld' hbeats]
      refine ⟨_, strandsListed_of_strand hheld hfilling hfill (fun n => ?_) rfl rfl⟩
      rw [hafter, hflight, if_neg hbeats]
      rfl

end

theorem strandsListed_closeAccess (h : BindingLaw s) :
    ∃ l, StrandsListed gone s (closeAccess gone (s.allStranded gone)) l := by
  by_cases hreached : ∃ a ∈ s.access, a.live = true ∧ a.kind = .read ∧ gone a.pair = true
  · obtain ⟨a, ha, hlive, hkind, hgone⟩ := hreached
    have hclose : closeAccess gone (s.allStranded gone) = endAccessOf a.pair (s.allStranded gone) := by
      simp only [closeAccess, (access_allStranded gone s).trans ha, hgone, if_true]
    rw [hclose]
    cases hentry : a.entry with
    | none => exact ⟨_, strandsListed_of_bare_access h ha hlive hkind hentry⟩
    | some e => exact strandsListed_of_filling_access h ha hlive hkind hgone hentry
  · exact ⟨_, strandsListed_of_unreached h fun a ha hreach => hreached ⟨a, ha, hreach⟩⟩

/-- A state with the entries, counter and access that the end of the access leaves has those of the removal. -/
theorem removal_left (h : BindingLaw s) {u : State} (hentries : u.entries = (closeAccess gone (s.allStranded gone)).entries)
    (hcounter : u.strandCounter = (closeAccess gone (s.allStranded gone)).strandCounter)
    (haccess : u.access = (closeAccess gone (s.allStranded gone)).access) :
    EntriesLeft gone s u ∧ AccessLeft gone s u := by
  obtain ⟨l, hl⟩ := strandsListed_closeAccess (gone := gone) h
  refine ⟨?_, ?_⟩
  · have hsame : StrandsListed gone s u l := by
      obtain ⟨hnodup, hadvanced, hlisted, hothers, hordered⟩ := hl
      refine ⟨hnodup, hcounter.trans hadvanced, fun j x hj => ?_, fun e he => ?_, hordered⟩
      · simp only [hentries]
        exact hlisted j x hj
      · simp only [Strands, hentries]
        exact hothers e he
    exact hsame.entriesLeft
  · rw [AccessLeft, haccess, access_closeAccess, access_allStranded]

end

end Sys2Proof.Machine
end

section
/-! SUPPORT. The removal of records, one after the other: what it makes of the records, the reservations and the responses
(R46, R139, R140), and all of it together, place by place. -/

namespace Sys2Proof.Machine

/-! ## Reservations that a removal reaches (R139, R140) -/

/-- The reservation names the pair's record as its lock-read or its lock-write record. -/
abbrev Reservation.Names (v : Reservation) (p : Pair) : Prop :=
  v.initiator = p.initiator ∧ (v.lockRead = some p.tag ∨ v.state = .writing p.tag)

theorem Reservation.NamesLockRead.any_eq {v : Reservation} {p : Pair} (hread : v.NamesLockRead p) (gone : Pair → Bool) :
    (v.lockRead.any fun t => gone ⟨v.initiator, t⟩) = gone p := by
  obtain ⟨hinitiator, hnames⟩ := hread
  rw [hnames, hinitiator]
  rfl

/-- What the ending without write leaves of a LOCK-WRITE's record (R139). -/
def TagRecord.unwritten (w : TagRecord) : Option TagRecord :=
  if w.verdict = .committed then none else some { w with position := .done, data := [], response := .sent }

section
variable {x : State} {p q : Pair} {r w : TagRecord} {k : SlotIx} {v : Reservation}

/-- The ending without write of a record that has no entry and is no reservation's lock-read record. -/
theorem endWithoutWrite_of_bare (hw : x.tag q = some w) (hentry : w.entry = none)
    (hunnamed : ∀ k : SlotIx, ∀ v ∈ x.slots[k], ¬v.NamesLockRead q) :
    endWithoutWrite q x = (x.setTag q w.unwritten).respond (.ack q .lockLost) := by
  let done : TagRecord := { w with position := .done, data := [], response := .sent }
  have hdone : ((x.setTag q (some done)).respond (.ack q .lockLost)).tag q = some done := State.tag_setTag_self ..
  have hbare : endWithoutWrite q x = releaseIfFinished q ((x.setTag q (some done)).respond (.ack q .lockLost)) := by
    simp only [endWithoutWrite, hw]
    rfl
  rw [hbare, TagRecord.unwritten]
  split
  · rename_i hcommitted
    rw [releaseIfFinished_of_finished hdone (TagRecord.finished_iff.2 ⟨rfl, rfl, hcommitted⟩),
      releaseRecord_of_bare (r := done) (s := (x.setTag q (some done)).respond (.ack q .lockLost)) hentry hunnamed]
    exact congrArg (State.respond · (.ack q .lockLost)) (State.setTag_setTag x q (some done) none)
  · rename_i huncommitted
    exact releaseIfFinished_of_unfinished hdone fun h => huncommitted (TagRecord.finished_iff.1 h).2.2

theorem lockTableRemoval_of_unnamed (h : ∀ k : SlotIx, ∀ v ∈ x.slots[k], ¬v.Names p) : lockTableRemoval p r x = x := by
  have hread : x.namedByLockRead p = none :=
    State.namedByLockRead_eq_none_iff.2 fun k v hv hn => h k v hv ⟨hn.1, .inl hn.2⟩
  have hwrite : x.namedByLockWrite p = none := by
    rw [State.namedByLockWrite, State.slotWhere_eq_none_iff]
    intro k v hv
    rw [Bool.and_eq_false_iff, decide_eq_false_iff_not, decide_eq_false_iff_not]
    exact or_iff_not_imp_left.2 fun hi hwriting => h k v hv ⟨not_not.1 hi, .inr hwriting⟩
  unfold lockTableRemoval
  cases r.kind with
  | lockRead => simp only [lockReadRemoved, hread]
  | lockWrite => simp only [freeWriting, hwrite, ite_self]
  | _ => rfl

section
variable (hlaw : LockLaw x) (hslot : x.slots[k] = some v) (hnames : v.NamesLockRead p)
include hlaw hslot hnames

theorem lockReadRemoved_of_reserved {n : Nat} (hstate : v.state = .reserved n) :
    lockReadRemoved p x = x.setSlot k none := by
  simp only [lockReadRemoved, State.namedByLockRead_eq_some hlaw hslot hnames, hstate]

variable {t : Tag} (hstate : v.state = .writing t) (hw : x.tag ⟨p.initiator, t⟩ = some w)
include hstate hw

theorem lockReadRemoved_of_issued (hposition : w.position = .issued) :
    lockReadRemoved p x = x.setSlot k (some { v with lockRead := none }) := by
  simp only [lockReadRemoved, State.namedByLockRead_eq_some hlaw hslot hnames, hstate, hw, Option.any_some, hposition,
    decide_true, if_true]

theorem lockReadRemoved_of_not_issued (hposition : w.position ≠ .issued) :
    lockReadRemoved p x = endWithoutWrite ⟨p.initiator, t⟩ (x.setSlot k none) := by
  simp only [lockReadRemoved, State.namedByLockRead_eq_some hlaw hslot hnames, hstate, hw, Option.any_some, hposition,
    decide_false, Bool.false_eq_true, if_false]

end

end

section
variable {s : State} {gone gone' : Pair → Bool} {v v' : Reservation}

/-- What is left of a reservation is what it was, but for its lock-read record. -/
theorem eq_of_slotAfterRemoval (h : slotAfterRemoval s gone v = some v') :
    v' = v ∨ v' = { v with lockRead := none } := by
  simp only [slotAfterRemoval] at h
  split at h
  · split at h
    · cases h
    · exact .inl (Option.some_inj.1 h).symm
  · split at h
    · cases h
    · split at h
      · split at h
        · exact .inr (Option.some_inj.1 h).symm
        · cases h
      · exact .inl (Option.some_inj.1 h).symm

/-- A reservation is left as the removal of the records that it names leaves it. -/
theorem slotAfterRemoval_congr (h : ∀ t : Tag, v.Names ⟨v.initiator, t⟩ → gone ⟨v.initiator, t⟩ = gone' ⟨v.initiator, t⟩) :
    slotAfterRemoval s gone v = slotAfterRemoval s gone' v := by
  have hread : (v.lockRead.any fun t => gone ⟨v.initiator, t⟩) = v.lockRead.any fun t => gone' ⟨v.initiator, t⟩ := by
    cases hlockRead : v.lockRead with
    | none => rfl
    | some t => exact h t ⟨rfl, .inl hlockRead⟩
  simp only [slotAfterRemoval, hread]
  cases hstate : v.state with
  | reserved n => rfl
  | writing t => simp only [h t ⟨rfl, .inr hstate⟩]

theorem slotAfterRemoval_of_reserved {n : Nat} (hstate : v.state = .reserved n) : slotAfterRemoval s gone v =
    if v.lockRead.any fun t => gone ⟨v.initiator, t⟩ then none else some v := by
  simp only [slotAfterRemoval, hstate]

theorem slotAfterRemoval_of_writing {t : Tag} (hstate : v.state = .writing t) : slotAfterRemoval s gone v =
    if gone ⟨v.initiator, t⟩ then none
    else if v.lockRead.any fun l => gone ⟨v.initiator, l⟩ then
      if (s.tag ⟨v.initiator, t⟩).any (fun w => decide (w.position = .issued)) then some { v with lockRead := none } else none
    else some v := by
  simp only [slotAfterRemoval, hstate]

/-- A reservation that no removed record is named by stays. -/
theorem slotAfterRemoval_of_unnamed (h : ∀ t : Tag, v.Names ⟨v.initiator, t⟩ → gone ⟨v.initiator, t⟩ = false) :
    slotAfterRemoval s gone v = some v := by
  rw [slotAfterRemoval_congr (gone' := fun _ => false) h]
  cases hstate : v.state with
  | reserved n => rw [slotAfterRemoval_of_reserved hstate]; simp
  | writing t => rw [slotAfterRemoval_of_writing hstate]; simp

end

/-! ## The access and the entries take no notice of the other tables -/

/-- The state with other records, reservations and responses. -/
abbrev State.withTables (t : State) (ts : Vector (Vector (Option TagRecord) 16) 8) (sl : Vector (Option Reservation) 4)
    (rs : List Response) : State := { t with tags := ts, slots := sl, responses := rs }

theorem unbindEntry_withTables (e : EntryIx) (t : State) (ts sl rs) :
    unbindEntry e (t.withTables ts sl rs) = (unbindEntry e t).withTables ts sl rs := by
  unfold unbindEntry
  cases t.entries[e] with
  | none => rfl
  | some c =>
    cases hstate : c.state with
    | filling b n =>
      simp only [hstate]
      rfl
    | _ => simp only [hstate]

theorem endUnbound_withTables (e : EntryIx) (t : State) (ts sl rs) :
    endUnbound e (t.withTables ts sl rs) = (endUnbound e t).withTables ts sl rs := by
  unfold endUnbound strandEntry
  cases t.entries[e] with
  | none => rfl
  | some c =>
    simp only
    split <;> rfl

theorem endAccessOf_withTables (p : Pair) (t : State) (ts sl rs) :
    endAccessOf p (t.withTables ts sl rs) = (endAccessOf p t).withTables ts sl rs := by
  unfold endAccessOf
  cases t.access with
  | none => rfl
  | some a =>
    simp only
    split
    · cases a.flight with
      | some f =>
        cases a.entry with
        | none => rfl
        | some e => exact unbindEntry_withTables e (t.setAccess _) ts sl rs
      | none =>
        cases a.entry with
        | none => rfl
        | some e => exact endUnbound_withTables e (t.setAccess none) ts sl rs
    · rfl

/-- The access and the entries change as if the other tables were not there. -/
theorem endAccessOf_foldl_withTables (l : List Pair) (t : State) (ts sl rs) :
    ∃ ts' sl' rs', (l.foldl (fun t p => endAccessOf p t) (t.withTables ts sl rs)) =
      (l.foldl (fun t p => endAccessOf p t) t).withTables ts' sl' rs' := by
  induction l generalizing t with
  | nil => exact ⟨ts, sl, rs, rfl⟩
  | cons p l ih =>
    rw [List.foldl_cons, List.foldl_cons, endAccessOf_withTables]
    exact ih (endAccessOf p t)

/-! ## The records that are gone so far -/

/-- `t` has the records, reservations and responses that the removal of the records of the pairs `gone` leaves of those of
`s`, and its lock-lost flags. -/
structure Dropped (s : State) (gone : Pair → Bool) (t : State) : Prop where
  free : ∀ q : Pair, gone q = true → t.tag q = none
  ended : ∀ q : Pair, EndsWithoutWrite s gone q → ∀ w ∈ s.tag q,
    t.tag q = w.unwritten ∧ t.responses = s.responses ++ [.ack q .lockLost]
  kept : ∀ q : Pair, gone q = false → ¬EndsWithoutWrite s gone q → t.tag q = s.tag q
  silent : (∀ q : Pair, ¬EndsWithoutWrite s gone q) → t.responses = s.responses
  slots : ∀ k : SlotIx, t.slots[k] = (s.slots[k]).bind (slotAfterRemoval s gone)
  flags : t.lockLost = s.lockLost

/-- What stands before a further removal: the records gone so far are `gone`, all uncommitted and of one initiator, and the
record of `p` is next, LOCK-WRITEs being removed before all others (R46). -/
structure DropsNext (s : State) (gone : Pair → Bool) (p : Pair) (r : TagRecord) (t : State) : Prop where
  lock : LockLaw s
  names : NamesLaw s
  issued : ∀ (i : Initiator) (t : Tag), ∀ r ∈ s.tag ⟨i, t⟩, r.writes = true → r.position = .issued → r.verdict = .committed
  bound : RecordsBound s
  dropped : Dropped s gone t
  fresh : gone p = false
  live : s.tag p = some r
  uncommitted : r.verdict = .none
  ours : ∀ q : Pair, gone q = true → q.initiator = p.initiator
  order : r.kind = .lockWrite → ∀ q : Pair, gone q = true → ∀ w ∈ s.tag q, w.kind = .lockWrite

/-- The pairs that are gone with one more. -/
abbrev withPair (gone : Pair → Bool) (p : Pair) (q : Pair) : Bool := gone q || decide (q = p)

namespace DropsNext

variable {s t : State} {gone : Pair → Bool} {p : Pair} {r : TagRecord} (h : DropsNext s gone p r t)
include h

theorem read_kind {k : SlotIx} {v : Reservation} {l : Tag} (hslot : s.slots[k] = some v) (hread : v.lockRead = some l) :
    ∃ w, s.tag ⟨v.initiator, l⟩ = some w ∧ w.kind = .lockRead := by
  obtain ⟨w, hw, hkind⟩ := (Option.any_eq_true _ _).1 ((h.names k v hslot).1 l hread)
  exact ⟨w, hw, of_decide_eq_true hkind⟩

theorem write_kind {k : SlotIx} {v : Reservation} {l : Tag} (hslot : s.slots[k] = some v) (hstate : v.state = .writing l) :
    ∃ w, s.tag ⟨v.initiator, l⟩ = some w ∧ w.kind = .lockWrite ∧ w.position ≠ .done := by
  obtain ⟨w, hw, hkind⟩ := (Option.any_eq_true _ _).1 ((h.names k v hslot).2 l (by rw [hstate]; rfl))
  simp only [Bool.and_eq_true, decide_eq_true_eq, Bool.not_eq_true', decide_eq_false_iff_not] at hkind
  exact ⟨w, hw, hkind.1, hkind.2⟩

/-- The reservation that ends a LOCK-WRITE is the one that its initiator holds. -/
theorem ends_iff {k : SlotIx} {v : Reservation} (hslot : s.slots[k] = some v) (hmine : v.initiator = p.initiator)
    {gone' : Pair → Bool} (hours : ∀ q : Pair, gone' q = true → q.initiator = p.initiator) (q : Pair) :
    EndsWithoutWrite s gone' q → q.initiator = p.initiator ∧ v.state = .writing q.tag ∧
      ∃ l ∈ v.lockRead, gone' ⟨p.initiator, l⟩ = true := by
  rintro ⟨-, -, l, w, hw, hinitiator, hstate, m, hm, hgone⟩
  have hown : q.initiator = p.initiator := hours ⟨q.initiator, m⟩ hgone
  have hsame : l = k := by
    by_contra hne
    exact (h.lock.1 l k hne w hw v hslot).1 (hinitiator.trans (hown.trans hmine.symm))
  subst hsame
  obtain rfl := Option.some_inj.1 (hw.symm.trans hslot)
  exact ⟨hown, hstate, m, hm, by rwa [hown] at hgone⟩

/-- The next record has not been ended without write. -/
theorem not_ended : ¬EndsWithoutWrite s gone p := by
  rintro ⟨-, -, k, v, hslot, hinitiator, hstate, l, hl, hgone⟩
  obtain ⟨w, hw, hkind, -⟩ := h.write_kind hslot hstate
  obtain ⟨x, hx, hread⟩ := h.read_kind hslot hl
  rw [hinitiator] at hw hx
  obtain rfl := Option.some_inj.1 (hw.symm.trans h.live)
  have hwrite := h.order hkind _ hgone x hx
  rw [hread] at hwrite
  cases hwrite

theorem live_now : t.tag p = some r := (h.dropped.kept p h.fresh h.not_ended).trans h.live

/-- A reservation that is left is one of those before, but for its lock-read record. -/
theorem slot_before {k : SlotIx} {v : Reservation} (hv : t.slots[k] = some v) :
    ∃ w, s.slots[k] = some w ∧ (v = w ∨ v = { w with lockRead := none }) := by
  rw [h.dropped.slots] at hv
  obtain ⟨w, hw, hleft⟩ := Option.bind_eq_some_iff.1 hv
  exact ⟨w, hw, eq_of_slotAfterRemoval hleft⟩

theorem lock_now : LockLaw t := by
  refine h.lock.of_less (fun k v hv => ?_) fun i hi => by rwa [h.dropped.flags] at hi
  obtain ⟨w, hw, hvw⟩ := h.slot_before hv
  exact ⟨w, hw, by obtain rfl | rfl := hvw <;> rfl⟩

/-- A reservation left names no record that it did not name. -/
theorem unnamed_now {q : Pair} (hunnamed : ∀ k : SlotIx, ∀ v ∈ s.slots[k], ¬v.Names q) :
    ∀ k : SlotIx, ∀ v ∈ t.slots[k], ¬v.Names q := by
  intro k v hv hn
  obtain ⟨w, hw, rfl | rfl⟩ := h.slot_before hv
  · exact hunnamed k v hw hn
  · exact hunnamed k w hw ⟨hn.1, .inr (by simpa using hn.2)⟩

end DropsNext

/-! ## One more record goes -/

namespace DropsNext

variable {s t : State} {gone : Pair → Bool} {p : Pair} {r : TagRecord} (h : DropsNext s gone p r t)

/-- The state in which the record and the access are dealt with, and the lock table is not. -/
abbrev bared (p : Pair) (t : State) : State := (endAccessOf p t).setTag p none

theorem tag_bared (p q : Pair) (t : State) : (bared p t).tag q = if q = p then none else t.tag q := by
  rw [bared, State.tag_setTag, tag_endAccessOf]

theorem slots_bared (p : Pair) (t : State) : (bared p t).slots = t.slots := by
  obtain ⟨_, _, _, hend⟩ := endAccessOf_only p t
  rw [bared, State.setTag_slots, hend]

theorem lockLost_bared (p : Pair) (t : State) : (bared p t).lockLost = t.lockLost := by
  obtain ⟨_, _, _, hend⟩ := endAccessOf_only p t
  rw [bared, State.setTag_lockLost, hend]

theorem responses_bared (p : Pair) (t : State) : (bared p t).responses = t.responses := by
  obtain ⟨_, _, _, hend⟩ := endAccessOf_only p t
  rw [bared, State.setTag_responses, hend]

include h

theorem dropRecord_eq : dropRecord p t = lockTableRemoval p r (bared p t) := by
  have hswap : endAccessOf p (t.setTag p none) = bared p t := by
    have hwith := endAccessOf_withTables p t (t.setTag p none).tags t.slots t.responses
    refine hwith.trans ?_
    obtain ⟨_, _, _, hend⟩ := endAccessOf_only p t
    rw [bared, hend]
    rfl
  rw [dropRecord, h.live_now]
  exact congrArg (lockTableRemoval p r) hswap

theorem lock_bared : LockLaw (bared p t) := h.lock_now.of_same (slots_bared p t) (lockLost_bared p t)

theorem ours' (q : Pair) (hq : withPair gone p q = true) : q.initiator = p.initiator := by
  rw [withPair, Bool.or_eq_true, decide_eq_true_iff] at hq
  obtain hq | rfl := hq
  · exact h.ours q hq
  · rfl

/-- Without an ending of a LOCK-WRITE, the records are as they were but for the one that goes. -/
theorem dropped_of_silent {u : State} (hbefore : ∀ q : Pair, ¬EndsWithoutWrite s gone q)
    (hafter : ∀ q : Pair, ¬EndsWithoutWrite s (withPair gone p) q) (htags : ∀ q : Pair, u.tag q = (bared p t).tag q)
    (hresponses : u.responses = (bared p t).responses) (hflags : u.lockLost = (bared p t).lockLost)
    (hslots : ∀ k : SlotIx, u.slots[k] = (s.slots[k]).bind (slotAfterRemoval s (withPair gone p))) :
    Dropped s (withPair gone p) u := by
  have htag (q : Pair) : u.tag q = if q = p then none else t.tag q := (htags q).trans (tag_bared p q t)
  refine ⟨fun q hq => ?_, fun q hq => absurd hq (hafter q), fun q hq _ => ?_, fun _ => ?_, hslots, ?_⟩
  · rw [htag]
    split
    · rfl
    · rename_i hne
      exact h.dropped.free q (by simpa [withPair, hne] using hq)
  · simp only [withPair, Bool.or_eq_false_iff, decide_eq_false_iff_not] at hq
    rw [htag, if_neg hq.2, h.dropped.kept q hq.1 (hbefore q)]
  · rw [hresponses, responses_bared, h.dropped.silent hbefore]
  · rw [hflags, lockLost_bared, h.dropped.flags]

/-- A record that no reservation names goes by itself. -/
theorem dropped_of_unnamed (hunnamed : ∀ k : SlotIx, ∀ v ∈ s.slots[k], ¬v.Names p) :
    dropRecord p t = bared p t ∧ Dropped s (withPair gone p) (bared p t) := by
  have hnone : ∀ k : SlotIx, ∀ v ∈ (bared p t).slots[k], ¬v.Names p := by
    simp only [slots_bared]
    exact h.unnamed_now hunnamed
  have hsame {v : Reservation} {k : SlotIx} (hslot : s.slots[k] = some v) (l : Tag) (hn : v.Names ⟨v.initiator, l⟩) :
      withPair gone p ⟨v.initiator, l⟩ = gone ⟨v.initiator, l⟩ := by
    have hne : (⟨v.initiator, l⟩ : Pair) ≠ p := fun he => hunnamed k v hslot (he ▸ hn)
    simp [withPair, hne]
  have hends (q : Pair) : EndsWithoutWrite s (withPair gone p) q ↔ EndsWithoutWrite s gone q := by
    constructor
    · rintro ⟨hkept, hwaiting, k, v, hslot, hinit, hstate, l, hl, hgone⟩
      rw [withPair, Bool.or_eq_false_iff] at hkept
      have hgone' := hsame hslot l ⟨rfl, .inl hl⟩
      rw [hinit] at hgone'
      exact ⟨hkept.1, hwaiting, k, v, hslot, hinit, hstate, l, hl, hgone'.symm.trans hgone⟩
    · rintro ⟨hkept, hwaiting, k, v, hslot, hinit, hstate, l, hl, hgone⟩
      have hne : q ≠ p := fun he => hunnamed k v hslot (he ▸ ⟨hinit, .inr hstate⟩)
      refine ⟨by simp [withPair, hkept, hne], hwaiting, k, v, hslot, hinit, hstate, l, hl, by simp [withPair, hgone]⟩
  refine ⟨by rw [h.dropRecord_eq, lockTableRemoval_of_unnamed hnone], ?_⟩
  refine ⟨fun q hq => ?_, fun q hq w hw => ?_, fun q hq hnot => ?_, fun hnot => ?_, fun k => ?_, ?_⟩
  · rw [tag_bared]
    split
    · rfl
    · rename_i hne
      exact h.dropped.free q (by simpa [withPair, hne] using hq)
  · have hne : q ≠ p := fun he => h.not_ended (he ▸ (hends q).1 hq)
    rw [tag_bared, if_neg hne, responses_bared]
    exact h.dropped.ended q ((hends q).1 hq) w hw
  · simp only [withPair, Bool.or_eq_false_iff, decide_eq_false_iff_not] at hq
    rw [tag_bared, if_neg hq.2, h.dropped.kept q hq.1 fun he => hnot ((hends q).2 he)]
  · rw [responses_bared, h.dropped.silent fun q he => hnot q ((hends q).2 he)]
  · simp only [slots_bared]
    rw [h.dropped.slots]
    cases hslot : s.slots[k] with
    | none => rfl
    | some v => exact (slotAfterRemoval_congr fun l hn => (hsame hslot l hn)).symm
  · rw [lockLost_bared, h.dropped.flags]

section
variable {k : SlotIx} {v : Reservation} (hslot : s.slots[k] = some v)
include hslot

/-- The other reservations are of other initiators. -/
theorem slotAfter_of_ne (hmine : v.initiator = p.initiator) {l : SlotIx} (hl : l ≠ k) :
    (s.slots[l]).bind (slotAfterRemoval s (withPair gone p)) = t.slots[l] := by
  rw [h.dropped.slots]
  cases hother : s.slots[l] with
  | none => rfl
  | some w =>
    refine slotAfterRemoval_congr fun m _ => ?_
    have hne : (⟨w.initiator, m⟩ : Pair) ≠ p :=
      fun he => (h.lock.1 l k hl w hother v hslot).1 ((congrArg Pair.initiator he).trans hmine.symm)
    simp [withPair, hne]

/-- Slot `k` changes as given and no other does. -/
theorem slots_after (hmine : v.initiator = p.initiator) {u : State} {x : Option Reservation}
    (hown : slotAfterRemoval s (withPair gone p) v = x) (hu : u.slots = ((bared p t).setSlot k x).slots) (l : SlotIx) :
    u.slots[l] = (s.slots[l]).bind (slotAfterRemoval s (withPair gone p)) := by
  simp only [hu]
  rw [State.slots_setSlot]
  split
  · rename_i he
    subst he
    rw [hslot, Option.bind_some, hown]
  · rename_i hne
    rw [h.slotAfter_of_ne hslot hmine hne]
    simp only [slots_bared]

end

section
variable {k : SlotIx} {v : Reservation} (hslot : s.slots[k] = some v) (hread : v.NamesLockRead p)
include hslot hread

theorem kind_of_lockRead : r.kind = .lockRead := by
  obtain ⟨w, hw, hkind⟩ := h.read_kind hslot hread.2
  rw [hread.1] at hw
  rwa [Option.some_inj.1 (hw.symm.trans h.live)] at hkind

/-- Before the LOCK-READ goes, the removal has ended no LOCK-WRITE. -/
theorem silent_of_lockRead (q : Pair) : ¬EndsWithoutWrite s gone q := by
  intro hq
  obtain ⟨-, -, l, hl, hgone⟩ := h.ends_iff hslot hread.1 h.ours q hq
  obtain rfl : p.tag = l := Option.some_inj.1 (hread.2.symm.trans hl)
  rw [h.fresh] at hgone
  cases hgone

/-- The removal of its LOCK-READ frees a RESERVED reservation (R139). -/
theorem dropped_of_reserved {n : Nat} (hstate : v.state = .reserved n) :
    dropRecord p t = (bared p t).setSlot k none ∧ Dropped s (withPair gone p) ((bared p t).setSlot k none) := by
  have hnow : (bared p t).slots[k] = some v := by
    simp only [slots_bared]
    rw [h.dropped.slots, hslot, Option.bind_some, slotAfterRemoval_of_reserved hstate, hread.any_eq, h.fresh]
    rfl
  refine ⟨?_, h.dropped_of_silent (h.silent_of_lockRead hslot hread) (fun q hq => ?_) (fun _ => rfl) rfl rfl
    (h.slots_after hslot hread.1 ?_ rfl)⟩
  · rw [h.dropRecord_eq, lockTableRemoval, h.kind_of_lockRead hslot hread]
    exact lockReadRemoved_of_reserved h.lock_bared hnow hread hstate
  · have hwriting := (h.ends_iff hslot hread.1 h.ours' q hq).2.1
    rw [hstate] at hwriting
    cases hwriting
  · rw [slotAfterRemoval_of_reserved hstate, hread.any_eq]
    simp [withPair]

section
variable {l : Tag} (hstate : v.state = .writing l)
include hstate

/-- The LOCK-WRITE is another record than the LOCK-READ. -/
theorem write_ne : (⟨p.initiator, l⟩ : Pair) ≠ p := by
  intro he
  obtain ⟨w, hw, hkind, -⟩ := h.write_kind hslot hstate
  rw [hread.1, he, h.live] at hw
  rw [← Option.some_inj.1 hw, h.kind_of_lockRead hslot hread] at hkind
  cases hkind

/-- When the LOCK-WRITE went before, the reservation has gone with it. -/
theorem dropped_of_write_gone (hgone : gone ⟨p.initiator, l⟩ = true) :
    dropRecord p t = bared p t ∧ Dropped s (withPair gone p) (bared p t) := by
  have hnow : (bared p t).slots[k] = none := by
    simp only [slots_bared]
    rw [h.dropped.slots, hslot, Option.bind_some, slotAfterRemoval_of_writing hstate, hread.1, hgone]
    rfl
  have hunnamed : ∀ m : SlotIx, ∀ x ∈ (bared p t).slots[m], ¬x.Names p := by
    intro m x hx hn
    by_cases hm : m = k
    · subst hm
      rw [hnow] at hx
      cases hx
    · simp only [slots_bared] at hx
      obtain ⟨y, hy, hxy⟩ := h.slot_before hx
      refine (h.lock.1 m k hm y hy v hslot).1 ?_
      obtain rfl | rfl := hxy <;> exact hn.1.trans hread.1.symm
  refine ⟨by rw [h.dropRecord_eq, lockTableRemoval_of_unnamed hunnamed], ?_⟩
  refine h.dropped_of_silent (h.silent_of_lockRead hslot hread) (fun q hq => ?_) (fun _ => rfl) rfl rfl
    (h.slots_after hslot hread.1 (x := none) ?_ ?_)
  · obtain ⟨hinitiator, hwriting, -⟩ := h.ends_iff hslot hread.1 h.ours' q hq
    obtain rfl : l = q.tag := by simpa [hstate] using hwriting
    obtain ⟨hkept, -⟩ := hq
    rw [← hinitiator] at hgone
    simp [withPair, hgone] at hkept
  · rw [slotAfterRemoval_of_writing hstate, hread.1]
    simp [withPair, hgone]
  · rw [State.setSlot]
    refine (Vector.ext fun m hm => ?_).symm
    rw [Vector.getElem_set]
    split
    · rename_i he
      simp only [← he]
      exact hnow.symm
    · rfl

section
variable (hgone : gone ⟨p.initiator, l⟩ = false) {w : TagRecord} (hw : s.tag ⟨p.initiator, l⟩ = some w)
include hgone hw

omit hw in
theorem slot_now : (bared p t).slots[k] = some v := by
  simp only [slots_bared]
  rw [h.dropped.slots, hslot, Option.bind_some, slotAfterRemoval_of_writing hstate, hread.any_eq, h.fresh, hread.1,
    hgone]
  rfl

theorem write_now : (bared p t).tag ⟨p.initiator, l⟩ = some w := by
  rw [tag_bared, if_neg (h.write_ne hslot hread hstate), h.dropped.kept _ hgone (h.silent_of_lockRead hslot hread _), hw]

theorem slot_after : slotAfterRemoval s (withPair gone p) v =
    if w.position = .issued then some { v with lockRead := none } else none := by
  have hkept : withPair gone p ⟨p.initiator, l⟩ = false := by
    simp [withPair, hgone, h.write_ne hslot hread hstate]
  have hp : withPair gone p p = true := by simp [withPair]
  rw [slotAfterRemoval_of_writing hstate, hread.any_eq, hp, hread.1, hkept, hw]
  simp

/-- One whose LOCK-WRITE is ISSUED only loses its lock-read record (R139). -/
theorem dropped_of_issued (hposition : w.position = .issued) :
    dropRecord p t = (bared p t).setSlot k (some { v with lockRead := none }) ∧
      Dropped s (withPair gone p) ((bared p t).setSlot k (some { v with lockRead := none })) := by
  refine ⟨?_, h.dropped_of_silent (h.silent_of_lockRead hslot hread) (fun q hq => ?_) (fun _ => rfl) rfl rfl
    (h.slots_after hslot hread.1 ?_ rfl)⟩
  · rw [h.dropRecord_eq, lockTableRemoval, h.kind_of_lockRead hslot hread]
    exact lockReadRemoved_of_issued h.lock_bared (h.slot_now hslot hread hstate hgone) hread hstate
      (h.write_now hslot hread hstate hgone hw) hposition
  · obtain ⟨hinitiator, hwriting, -⟩ := h.ends_iff hslot hread.1 h.ours' q hq
    obtain rfl : l = q.tag := by simpa [hstate] using hwriting
    obtain ⟨-, hwaiting, -⟩ := hq
    rw [← hinitiator] at hw
    rw [hw] at hwaiting
    simp [hposition] at hwaiting
  · rw [h.slot_after hslot hread hstate hgone hw, if_pos hposition]

/-- One whose LOCK-WRITE is WAITING goes, and the LOCK-WRITE is ended without write (R139). -/
theorem dropped_of_waiting (hposition : w.position = .waiting) :
    dropRecord p t = (((bared p t).setSlot k none).setTag ⟨p.initiator, l⟩ w.unwritten).respond
        (.ack ⟨p.initiator, l⟩ .lockLost) ∧
      Dropped s (withPair gone p) ((((bared p t).setSlot k none).setTag ⟨p.initiator, l⟩ w.unwritten).respond
        (.ack ⟨p.initiator, l⟩ .lockLost)) := by
  have hwne := h.write_ne hslot hread hstate
  obtain ⟨x, hx, hkind, -⟩ := h.write_kind hslot hstate
  rw [hread.1] at hx
  obtain rfl := Option.some_inj.1 (hx.symm.trans hw)
  have hentry : x.entry = none := by
    rw [Option.eq_none_iff_forall_not_mem]
    intro e he
    have hreads := (h.bound p.initiator l x hw e he).1
    simp [TagRecord.reads, hkind] at hreads
  have hunnamed : ∀ m : SlotIx, ∀ y ∈ ((bared p t).setSlot k none).slots[m], ¬y.NamesLockRead ⟨p.initiator, l⟩ := by
    refine State.unnamed_setSlot_none fun m y hy hn => ?_
    simp only [slots_bared] at hy
    obtain ⟨z, hz, rfl | rfl⟩ := h.slot_before hy
    · obtain ⟨a, ha, hread'⟩ := h.read_kind hz hn.2
      rw [hn.1] at ha
      obtain rfl := Option.some_inj.1 (ha.symm.trans hw)
      rw [hkind] at hread'
      cases hread'
    · cases hn.2
  have hends (q : Pair) : EndsWithoutWrite s (withPair gone p) q ↔ q = ⟨p.initiator, l⟩ := by
    constructor
    · intro hq
      obtain ⟨hinitiator, hwriting, -⟩ := h.ends_iff hslot hread.1 h.ours' q hq
      obtain rfl : l = q.tag := by simpa [hstate] using hwriting
      rw [← hinitiator]
    · rintro rfl
      refine ⟨by simp [withPair, hgone, hwne], by simp [hw, hposition], k, v, hslot, hread.1, hstate, p.tag, hread.2, ?_⟩
      simp [withPair]
  refine ⟨?_, fun q hq => ?_, fun q hq y hy => ?_, fun q hq hnot => ?_, fun hnot => ?_, fun m => ?_, ?_⟩
  · rw [h.dropRecord_eq, lockTableRemoval, h.kind_of_lockRead hslot hread]
    refine (lockReadRemoved_of_not_issued h.lock_bared (h.slot_now hslot hread hstate hgone) hread hstate
      (h.write_now hslot hread hstate hgone hw) (by simp [hposition])).trans ?_
    exact endWithoutWrite_of_bare (x := (bared p t).setSlot k none) (h.write_now hslot hread hstate hgone hw) hentry hunnamed
  · have hne : q ≠ ⟨p.initiator, l⟩ := by
      rintro rfl
      simp [withPair, hgone, hwne] at hq
    rw [State.tag_respond, State.tag_setTag, if_neg hne]
    refine (tag_bared p q t).trans ?_
    split
    · rfl
    · rename_i hqp
      exact h.dropped.free q (by simpa [withPair, hqp] using hq)
  · obtain rfl := (hends q).1 hq
    obtain rfl := Option.some_inj.1 (hw.symm.trans hy)
    refine ⟨State.tag_setTag_self .., ?_⟩
    change (bared p t).responses ++ _ = _
    rw [responses_bared, h.dropped.silent (h.silent_of_lockRead hslot hread)]
  · have hne : q ≠ ⟨p.initiator, l⟩ := fun he => hnot ((hends q).2 he)
    simp only [withPair, Bool.or_eq_false_iff, decide_eq_false_iff_not] at hq
    rw [State.tag_respond, State.tag_setTag, if_neg hne]
    refine (tag_bared p q t).trans ?_
    rw [if_neg hq.2, h.dropped.kept q hq.1 (h.silent_of_lockRead hslot hread q)]
  · exact absurd ((hends _).2 rfl) (hnot _)
  · exact h.slots_after hslot hread.1 (by rw [h.slot_after hslot hread hstate hgone hw, if_neg (by simp [hposition])]) rfl m
  · exact (lockLost_bared p t).trans h.dropped.flags

end
end
end

/-- The removal of a WAITING LOCK-WRITE frees its reservation (R140). -/
theorem dropped_of_lockWrite {k : SlotIx} {v : Reservation} (hslot : s.slots[k] = some v)
    (hmine : v.initiator = p.initiator) (hstate : v.state = .writing p.tag) :
    dropRecord p t = (bared p t).setSlot k none ∧ Dropped s (withPair gone p) ((bared p t).setSlot k none) := by
  obtain ⟨w, hw, hkind, hlive⟩ := h.write_kind hslot hstate
  rw [hmine] at hw
  obtain rfl := Option.some_inj.1 (hw.symm.trans h.live)
  have hposition : w.position = .waiting := by
    cases hp : w.position with
    | waiting => rfl
    | done => exact absurd hp hlive
    | issued =>
      have hcommitted := h.issued p.initiator p.tag w hw (by simp [TagRecord.writes, hkind]) hp
      rw [h.uncommitted] at hcommitted
      cases hcommitted
  have hreadKept (m : Tag) (hm : v.lockRead = some m) : gone ⟨p.initiator, m⟩ = false := by
    refine Bool.eq_false_iff.2 fun hgone => ?_
    obtain ⟨x, hx, hread⟩ := h.read_kind hslot hm
    rw [hmine] at hx
    have hwrite := h.order hkind _ hgone x hx
    rw [hread] at hwrite
    cases hwrite
  have hnow : (bared p t).slots[k] = some v := by
    simp only [slots_bared]
    rw [h.dropped.slots, hslot, Option.bind_some, slotAfterRemoval_of_unnamed]
    rintro m ⟨-, hm | hm⟩
    · rw [hmine]
      exact hreadKept m hm
    · obtain rfl : p.tag = m := by simpa [hstate] using hm
      rw [hmine]
      exact h.fresh
  have hsilent (q : Pair) : ¬EndsWithoutWrite s gone q := by
    intro hq
    obtain ⟨-, -, m, hm, hgone⟩ := h.ends_iff hslot hmine h.ours q hq
    rw [hreadKept m hm] at hgone
    cases hgone
  refine ⟨?_, h.dropped_of_silent hsilent (fun q hq => ?_) (fun _ => rfl) rfl rfl (h.slots_after hslot hmine ?_ rfl)⟩
  · rw [h.dropRecord_eq, lockTableRemoval, hkind]
    simp only [hposition, if_true]
    exact freeWriting_of_named h.lock_bared hnow hmine hstate
  · obtain ⟨hinitiator, hwriting, -⟩ := h.ends_iff hslot hmine h.ours' q hq
    have htag : p.tag = q.tag := by simpa [hstate] using hwriting
    have hqp : q = p := by
      obtain ⟨i, m⟩ := q
      obtain ⟨j, n⟩ := p
      simp only at hinitiator htag
      rw [hinitiator, htag]
    simp [EndsWithoutWrite, withPair, hqp] at hq
  · have hp : withPair gone p p = true := by simp [withPair]
    rw [slotAfterRemoval_of_writing hstate, hmine, hp]
    rfl

/-- One more record goes: what is left of the tables, and of the access and entries what its removal does. -/
theorem step : Dropped s (withPair gone p) (dropRecord p t) ∧
    ∃ ts sl rs, dropRecord p t = (endAccessOf p t).withTables ts sl rs := by
  by_cases hnamed : ∃ k : SlotIx, ∃ v, s.slots[k] = some v ∧ v.Names p
  · obtain ⟨k, v, hslot, hmine, hread | hwrite⟩ := hnamed
    · cases hstate : v.state with
      | reserved n =>
        obtain ⟨heq, hdropped⟩ := h.dropped_of_reserved hslot ⟨hmine, hread⟩ hstate
        rw [heq]
        exact ⟨hdropped, _, _, _, rfl⟩
      | writing l =>
        cases hgone : gone ⟨p.initiator, l⟩ with
        | true =>
          obtain ⟨heq, hdropped⟩ := h.dropped_of_write_gone hslot ⟨hmine, hread⟩ hstate hgone
          rw [heq]
          exact ⟨hdropped, _, _, _, rfl⟩
        | false =>
          obtain ⟨w, hw, -, hlive⟩ := h.write_kind hslot hstate
          rw [hmine] at hw
          cases hposition : w.position with
          | waiting =>
            obtain ⟨heq, hdropped⟩ := h.dropped_of_waiting hslot ⟨hmine, hread⟩ hstate hgone hw hposition
            rw [heq]
            exact ⟨hdropped, _, _, _, rfl⟩
          | issued =>
            obtain ⟨heq, hdropped⟩ := h.dropped_of_issued hslot ⟨hmine, hread⟩ hstate hgone hw hposition
            rw [heq]
            exact ⟨hdropped, _, _, _, rfl⟩
          | done => exact absurd hposition hlive
    · obtain ⟨heq, hdropped⟩ := h.dropped_of_lockWrite hslot hmine hwrite
      rw [heq]
      exact ⟨hdropped, _, _, _, rfl⟩
  · push Not at hnamed
    obtain ⟨heq, hdropped⟩ := h.dropped_of_unnamed fun k v hv => hnamed k v hv
    rw [heq]
    exact ⟨hdropped, _, _, _, rfl⟩

end DropsNext

/-! ## All records of one removal -/

section
variable {s : State}

/-- Nothing is gone at first, and stranded entries are no concern of the other tables. -/
theorem dropped_none {t : State} (htags : ∀ q, t.tag q = s.tag q) (hslots : t.slots = s.slots)
    (hresponses : t.responses = s.responses) (hflags : t.lockLost = s.lockLost) : Dropped s (fun _ => false) t := by
  have hends (q : Pair) : ¬EndsWithoutWrite s (fun _ => false) q := by
    rintro ⟨-, -, k, v, -, -, -, l, -, hgone⟩
    cases hgone
  refine ⟨fun q hq => absurd hq Bool.false_ne_true, fun q hq => absurd hq (hends q), fun q _ _ => htags q,
    fun _ => hresponses, fun k => ?_, hflags⟩
  simp only [hslots]
  cases s.slots[k] with
  | none => rfl
  | some v => exact (slotAfterRemoval_of_unnamed (gone := fun _ => false) fun _ _ => rfl).symm

/-- The records of the list go one after the other, LOCK-WRITEs first. -/
theorem dropped_foldl (hs : Lawful s) {i : Initiator} (l : List Pair) :
    ∀ (gone : Pair → Bool) (t : State), Dropped s gone t → (∀ q, gone q = true → q.initiator = i) → l.Nodup →
      (∀ p ∈ l, gone p = false ∧ p.initiator = i ∧ ∃ r, s.tag p = some r ∧ r.verdict = .none) →
      (∀ p ∈ l, ∀ r ∈ s.tag p, r.kind = .lockWrite → ∀ q, gone q = true → ∀ w ∈ s.tag q, w.kind = .lockWrite) →
      l.Pairwise (fun q p => ∀ r ∈ s.tag p, r.kind = .lockWrite → ∀ w ∈ s.tag q, w.kind = .lockWrite) →
      Dropped s (fun q => gone q || l.contains q) (l.foldl (fun t p => dropRecord p t) t) ∧
        ∃ ts sl rs, l.foldl (fun t p => dropRecord p t) t = (l.foldl (fun t p => endAccessOf p t) t).withTables ts sl rs := by
  induction l with
  | nil =>
    intro gone t hdropped _ _ _ _ _
    refine ⟨?_, t.tags, t.slots, t.responses, rfl⟩
    have hsame : (fun q => gone q || ([] : List Pair).contains q) = gone := by simp
    rw [hsame]
    exact hdropped
  | cons p l ih =>
    intro gone t hdropped hours hnodup hlive hfirst hpairwise
    obtain ⟨hlock, haccess, hnames, -, hbinding⟩ := hs
    obtain ⟨hfresh, hrest⟩ := List.nodup_cons.1 hnodup
    obtain ⟨hbefore, hafter⟩ := List.pairwise_cons.1 hpairwise
    obtain ⟨hnot, hmine, r, hr, hverdict⟩ := hlive p (by simp)
    have hnext : DropsNext s gone p r t :=
      ⟨hlock, hnames, haccess.1, hbinding.1, hdropped, hnot, hr, hverdict, fun q hq => (hours q hq).trans hmine.symm,
        hfirst p (by simp) r hr⟩
    obtain ⟨hone, ts, sl, rs, heq⟩ := hnext.step
    have hgone {q : Pair} (hq : withPair gone p q = true) : gone q = true ∨ q = p := by
      simpa [withPair] using hq
    obtain ⟨hall, ts', sl', rs', heq'⟩ := ih (withPair gone p) (dropRecord p t) hone
      (fun q hq => (hgone hq).elim (hours q) fun he => he ▸ hmine) hrest
      (fun q hq => ⟨by
        have hne : q ≠ p := fun he => hfresh (he ▸ hq)
        simp [withPair, hne, (hlive q (List.mem_cons_of_mem p hq)).1], (hlive q (List.mem_cons_of_mem p hq)).2⟩)
      (fun q hq x hx hkind y hy w hw => (hgone hy).elim
        (fun hy => hfirst q (List.mem_cons_of_mem p hq) x hx hkind y hy w hw)
        fun he => hbefore q hq x hx hkind w (he ▸ hw)) hafter
    refine ⟨?_, ts', sl', rs', ?_⟩
    · have hsame : (fun q => gone q || (p :: l).contains q) = fun q => withPair gone p q || l.contains q := by
        funext q
        rw [List.contains_cons, withPair, Bool.or_assoc]
        rfl
      rw [hsame]
      exact hall
    · obtain ⟨_, _, _, hwith⟩ := endAccessOf_foldl_withTables l (endAccessOf p t) ts sl rs
      rw [List.foldl_cons, List.foldl_cons, heq', heq, hwith]

/-- The pair's record is a LOCK-WRITE. -/
def State.isLockWrite (s : State) (p : Pair) : Bool := (s.tag p).any fun r => decide (r.kind = .lockWrite)

theorem State.isLockWrite_of_live {p : Pair} {r : TagRecord} (hr : s.tag p = some r) :
    s.isLockWrite p = decide (r.kind = .lockWrite) := by
  simp [State.isLockWrite, hr]

/-- The pairs in the order in which their records go, LOCK-WRITEs first (R46). -/
def State.removalOrder (s : State) (ps : List Pair) : List Pair :=
  ps.filter s.isLockWrite ++ ps.filter fun p => !s.isLockWrite p

theorem removeRecords_eq (ps : List Pair) (s : State) : removeRecords ps s =
    (s.removalOrder ps).foldl (fun t p => dropRecord p t) (s.allStranded fun p => ps.contains p) := rfl

theorem State.mem_removalOrder {ps : List Pair} {p : Pair} : p ∈ s.removalOrder ps ↔ p ∈ ps := by
  rw [State.removalOrder, List.mem_append, List.mem_filter, List.mem_filter]
  cases s.isLockWrite p <;> simp

theorem State.contains_removalOrder (ps : List Pair) : (fun q => (s.removalOrder ps).contains q) = fun q => ps.contains q := by
  funext q
  rw [Bool.eq_iff_iff, List.contains_iff_mem, List.contains_iff_mem, State.mem_removalOrder]

theorem State.nodup_removalOrder {ps : List Pair} (h : ps.Nodup) : (s.removalOrder ps).Nodup := by
  refine (h.filter _).append (h.filter _) fun p hp hq => ?_
  have hyes := (List.mem_filter.1 hp).2
  have hno := (List.mem_filter.1 hq).2
  rw [hyes] at hno
  cases hno

/-- Before a LOCK-WRITE only LOCK-WRITEs go. -/
theorem State.pairwise_removalOrder (ps : List Pair) : (s.removalOrder ps).Pairwise
    fun q p => ∀ r ∈ s.tag p, r.kind = .lockWrite → ∀ w ∈ s.tag q, w.kind = .lockWrite := by
  refine List.pairwise_append.2 ⟨?_, ?_, fun q hq p _ r _ _ w hw => ?_⟩
  · refine List.pairwise_of_forall_mem_list fun q hq p _ r _ _ w hw => ?_
    simpa [State.isLockWrite_of_live hw] using (List.mem_filter.1 hq).2
  · refine List.pairwise_of_forall_mem_list fun q _ p hp r hr hwrite => ?_
    have hno := (List.mem_filter.1 hp).2
    simp [State.isLockWrite_of_live hr, hwrite] at hno
  · simpa [State.isLockWrite_of_live hw] using (List.mem_filter.1 hq).2

/-- The removal of uncommitted records of one initiator, place by place (R46, R79, R139, R140, R156). -/
theorem removes_removeRecords (hs : Lawful s) {i : Initiator} {ps : List Pair} (hnodup : ps.Nodup)
    (hlive : ∀ p ∈ ps, p.initiator = i ∧ ∃ r, s.tag p = some r ∧ r.verdict = .none) :
    Removes (fun q => ps.contains q) s (removeRecords ps s) := by
  obtain ⟨_, _, hstart⟩ := strandAll_only (s.capturedBy fun p => ps.contains p) s
  have hnone : Dropped s (fun _ => false) (s.allStranded fun p => ps.contains p) :=
    dropped_none (fun q => tag_allStranded _ s q) (slots_allStranded _ s) (by rw [State.allStranded, hstart])
      (by rw [State.allStranded, hstart])
  obtain ⟨hdropped, ts, sl, rs, heq⟩ := dropped_foldl hs (s.removalOrder ps) (fun _ => false) _ hnone
    (fun q hq => absurd hq Bool.false_ne_true) (State.nodup_removalOrder hnodup)
    (fun p hp => ⟨rfl, hlive p (State.mem_removalOrder.1 hp)⟩)
    (fun _ _ _ _ _ _ hq => absurd hq Bool.false_ne_true) (State.pairwise_removalOrder ps)
  rw [← removeRecords_eq] at hdropped heq
  simp only [Bool.false_or, State.contains_removalOrder] at hdropped
  have hclosed : removeRecords ps s =
      (closeAccess (fun q => ps.contains q) (s.allStranded fun p => ps.contains p)).withTables ts sl rs := by
    rw [heq, endAccessOf_foldl, State.contains_removalOrder]
  have hrest := removal_left (gone := fun q => ps.contains q) hs.2.2.2.2 (u := removeRecords ps s) (by rw [hclosed])
    (by rw [hclosed]) (by rw [hclosed])
  obtain ⟨_, _, _, _, _, _, honly⟩ := removeRecords_only ps s
  refine ⟨hdropped.free, hdropped.ended, hdropped.kept, hdropped.silent, hdropped.slots, hrest.1, hrest.2, ?_⟩
  rw [honly]

end

end Sys2Proof.Machine
end

section
/-! SUPPORT. The removal of one record, by a KILL or a due verdict timer: what is left when it is WAITING, has a CAPTURED
entry, is read on the target bus, or is a half of a locked pair; and the statements about them (R46 to R48, R52, R77 to R79,
R139, R140, R156). -/

namespace Sys2Proof.Machine

/-! ## One record -/

section
variable {s : State} {p : Pair} {r : TagRecord}

/-- The pairs of a removal of one record. -/
abbrev only (p q : Pair) : Bool := [p].contains q

theorem only_eq (p : Pair) : only p = fun q => decide (q = p) := by
  funext q
  simp [only]

theorem only_iff {q : Pair} : only p q = true ↔ q = p := by
  rw [only_eq, decide_eq_true_iff]

theorem exec_kill_of_uncommitted (hlive : s.tag p = some r) (hverdict : r.verdict = .none) :
    exec (.kill p) s = .next (settle s (removeRecords [p] s)) := by
  change execKill p s = _
  simp only [execKill, hlive, hverdict]

theorem removeOne_eq : removeRecords [p] s = dropRecord p (s.allStranded (only p)) := removeRecords_singleton p s

variable (hs : Lawful s) (hlive : s.tag p = some r)
include hs hlive

/-- A CAPTURED entry bound to the pair is its record's, which is uncommitted, DONE and SENT (R67). -/
theorem captured_iff_entry {e : EntryIx} {c : CaptureEntry} (hheld : s.entries[e] = some c) :
    c.state = .captured p ↔ r.entry = some e ∧ c.isFilling = false := by
  obtain ⟨-, -, -, -, hrecords, hentries, -⟩ := hs
  constructor
  · intro hstate
    obtain ⟨hbound, -⟩ := hentries e c hheld
    have howner := hbound p (by rw [hstate]; rfl)
    rw [hlive] at howner
    exact ⟨by simpa using howner, by simp [CaptureEntry.isFilling, hstate]⟩
  · rintro ⟨hentry, hnot⟩
    obtain ⟨-, -, hbound⟩ := hrecords p.initiator p.tag r hlive e hentry
    rw [hheld] at hbound
    have hmine : c.state.boundTo = some p := by
      simp only [Option.any_some, Bool.and_eq_true, decide_eq_true_eq] at hbound
      exact hbound.1
    revert hmine hnot
    cases hstate : c.state <;> simp [EntryState.boundTo, CaptureEntry.isFilling, hstate]

/-- Without a CAPTURED entry nothing is stranded before the record goes. -/
theorem allStranded_of_none (hnone : ∀ e : EntryIx, r.entry = some e → ∀ c ∈ s.entries[e], c.isFilling = true) :
    s.allStranded (only p) = s := by
  have hempty : s.capturedBy (only p) = [] := by
    refine List.eq_nil_iff_forall_not_mem.2 fun x hx => ?_
    obtain ⟨hheld, q, hstate, hq⟩ := State.mem_capturedBy_iff.1 hx
    rw [only_iff.1 hq] at hstate
    obtain ⟨hentry, hnot⟩ := (captured_iff_entry hs hlive hheld).1 hstate
    rw [hnone x.1 hentry x.2 hheld] at hnot
    cases hnot
  rw [State.allStranded, hempty]
  rfl

theorem allStranded_of_captured {e : EntryIx} {c : CaptureEntry} (hentry : r.entry = some e) (hheld : s.entries[e] = some c)
    (hcaptured : c.isFilling = false) : s.allStranded (only p) = s.madeStrand e c := by
  have hmem (x : Numbered) : x ∈ s.capturedBy (only p) ↔ x = (e, c) := by
    rw [State.mem_capturedBy_iff]
    constructor
    · rintro ⟨hx, q, hstate, hq⟩
      rw [only_iff.1 hq] at hstate
      have hsame := ((captured_iff_entry hs hlive hx).1 hstate).1
      obtain ⟨d, b⟩ := x
      obtain rfl : e = d := Option.some_inj.1 (hentry.symm.trans hsame)
      exact congrArg (Prod.mk e) (Option.some_inj.1 (hx.symm.trans hheld))
    · rintro rfl
      exact ⟨hheld, p, (captured_iff_entry hs hlive hheld).2 ⟨hentry, hcaptured⟩, only_iff.2 rfl⟩
  have hone : s.capturedBy (only p) = [(e, c)] :=
    List.perm_singleton.1 ((List.perm_ext_iff_of_nodup (nodup_entriesWhere s _).of_map (List.nodup_singleton _)).2
      fun x => (hmem x).trans List.mem_singleton.symm)
  rw [State.allStranded, hone]
  exact strandEntry_of_held hheld

/-- An access is open for the record only while it is ISSUED (R145). -/
theorem endAccessOf_of_not_issued {t : State} (haccess : t.access = s.access) (hposition : r.position ≠ .issued) :
    endAccessOf p t = t := by
  refine endAccessOf_of_other fun a ha ⟨hopen, hpair, _⟩ => hposition ?_
  rw [haccess] at ha
  obtain ⟨-, ⟨-, haccessLaw⟩, -⟩ := hs
  have hfits := (haccessLaw a ha).1 hopen
  rw [hpair, hlive] at hfits
  simp only [Option.any_some, Bool.and_eq_true, decide_eq_true_eq] at hfits
  exact hfits.1

/-- Before a WAITING record, and one without an entry that is not ISSUED, goes, nothing is stranded and no access ends. -/
theorem bared_of_no_entry (hentry : r.entry = none) (hposition : r.position ≠ .issued) :
    DropsNext.bared p (s.allStranded (only p)) = s.setTag p none := by
  rw [allStranded_of_none hs hlive fun e he => absurd (hentry.symm.trans he) (Option.some_ne_none e).symm, DropsNext.bared,
    endAccessOf_of_not_issued hs hlive rfl hposition]

theorem entry_of_waiting (hposition : r.position = .waiting) : r.entry = none := by
  obtain ⟨-, -, -, -, hrecords, -⟩ := hs
  rw [Option.eq_none_iff_forall_not_mem]
  intro e he
  exact (hrecords p.initiator p.tag r hlive e he).2.1 hposition

/-- No reservation names a record that is neither its LOCK-READ nor its LOCK-WRITE that is not DONE (R128). -/
theorem unnamed_of (hwrite : r.kind = .lockWrite → r.position = .done)
    (hread : ∀ k : SlotIx, ∀ v ∈ s.slots[k], ¬v.NamesLockRead p) : ∀ k : SlotIx, ∀ v ∈ s.slots[k], ¬v.Names p := by
  rintro k v hv ⟨hinitiator, hnames | hstate⟩
  · exact hread k v hv ⟨hinitiator, hnames⟩
  · obtain ⟨-, -, hnamesLaw, -⟩ := hs
    have hlockWrite := (hnamesLaw k v hv).2 p.tag (by rw [hstate]; rfl)
    rw [hinitiator, hlive] at hlockWrite
    simp only [Option.any_some, Bool.and_eq_true, decide_eq_true_eq, Bool.not_eq_true', decide_eq_false_iff_not] at hlockWrite
    exact hlockWrite.2 (hwrite hlockWrite.1)

/-! ### What is left, form by form -/

variable (hverdict : r.verdict = .none)
include hverdict

theorem removes_one : Removes (fun q => decide (q = p)) s (removeRecords [p] s) := by
  have h := removes_removeRecords (i := p.initiator) hs (List.nodup_singleton p) fun q hq => by
    obtain rfl := List.mem_singleton.1 hq
    exact ⟨rfl, r, hlive, hverdict⟩
  rwa [show (fun q => [p].contains q) = fun q => decide (q = p) from only_eq p] at h

/-- The one record goes first. -/
theorem dropsFirst : DropsNext s (fun _ => false) p r (s.allStranded (only p)) := by
  obtain ⟨hlock, haccess, hnames, -, hbinding⟩ := hs
  obtain ⟨_, _, hstart⟩ := strandAll_only (s.capturedBy (only p)) s
  refine ⟨hlock, hnames, haccess.1, hbinding.1, ?_, rfl, hlive, hverdict, fun q hq => absurd hq Bool.false_ne_true,
    fun _ q hq => absurd hq Bool.false_ne_true⟩
  exact dropped_none (fun q => tag_allStranded _ s q) (slots_allStranded _ s) (by rw [State.allStranded, hstart])
    (by rw [State.allStranded, hstart])

/-- A record that nothing is bound to leaves nothing. -/
theorem removeOne_of_unnamed (hunnamed : ∀ k : SlotIx, ∀ v ∈ s.slots[k], ¬v.Names p) :
    removeRecords [p] s = DropsNext.bared p (s.allStranded (only p)) :=
  (removeOne_eq).trans ((dropsFirst hs hlive hverdict).dropped_of_unnamed hunnamed).1

/-- A READ, WRITE or UNLOCK that is WAITING leaves nothing (R46). -/
theorem removeOne_of_waiting (hposition : r.position = .waiting)
    (hkind : r.kind = .read ∨ r.kind = .write ∨ r.kind = .unlock) : removeRecords [p] s = s.setTag p none := by
  have hnotRead : r.kind ≠ .lockRead := by rintro h; simp [h] at hkind
  have hnotWrite : r.kind ≠ .lockWrite := by rintro h; simp [h] at hkind
  rw [removeOne_of_unnamed hs hlive hverdict
      (unnamed_of hs hlive (fun h => absurd h hnotWrite) (NamesLaw.unnamed hs.2.2.1 hlive hnotRead)),
    bared_of_no_entry hs hlive (entry_of_waiting hs hlive hposition) (by simp [hposition])]

/-- A WAITING LOCK-WRITE frees its reservation (R140). -/
theorem removeOne_of_lockWrite (hposition : r.position = .waiting) {k : SlotIx} {v : Reservation}
    (hslot : s.slots[k] = some v) (hmine : v.initiator = p.initiator) (hstate : v.state = .writing p.tag) :
    removeRecords [p] s = (s.setTag p none).setSlot k none := by
  rw [removeOne_eq, ((dropsFirst hs hlive hverdict).dropped_of_lockWrite hslot hmine hstate).1,
    bared_of_no_entry hs hlive (entry_of_waiting hs hlive hposition) (by simp [hposition])]

end

/-- Settles O18: of a form that nothing else is bound to only the pair is freed; a CAPTURED entry is stranded before. -/
theorem killLeavesNothingOrAStrand : Obligations.KillLeavesNothingOrAStrand := by
  intro p r s hs hlive hverdict
  have hkill := exec_kill_of_uncommitted hlive hverdict
  refine ⟨fun hposition hkind => ?_, fun hposition hentry hunread => ?_,
    ⟨_, removes_one hs hlive hverdict, hkill⟩, fun e c hkind hentry hheld hcaptured => ?_⟩
  · rw [hkill, removeOne_of_waiting hs hlive hverdict hposition hkind]
  · rw [hkill, removeOne_of_unnamed hs hlive hverdict (unnamed_of hs hlive (fun _ => hposition) hunread),
      bared_of_no_entry hs hlive hentry (by simp [hposition])]
  · have hnot : c.isFilling = false := by
      revert hcaptured
      cases hstate : c.state <;> simp [CaptureEntry.isCaptured, CaptureEntry.isFilling, hstate]
    have hposition : r.position ≠ .issued := by
      obtain ⟨-, -, -, -, hrecords, -⟩ := hs
      obtain ⟨-, -, hbound⟩ := hrecords p.initiator p.tag r hlive e hentry
      rw [hheld, Option.any_some, hnot] at hbound
      simp only [Bool.false_or, Bool.and_eq_true, decide_eq_true_eq] at hbound
      rw [hbound.2.1.2]
      exact Position.noConfusion
    rw [hkill, removeOne_of_unnamed hs hlive hverdict (unnamed_of hs hlive (fun h => by simp [hkind] at h)
      (NamesLaw.unnamed hs.2.2.1 hlive (by simp [hkind]))), allStranded_of_captured hs hlive hentry hheld hnot,
      DropsNext.bared, endAccessOf_of_not_issued (t := s.madeStrand e c) hs hlive rfl hposition]
    rfl

/-! ## The read on the target bus -/

section
variable {s : State} {p : Pair} {r : TagRecord} {a : Access}
variable (hs : Lawful s) (hlive : s.tag p = some r) (haccess : s.access = some a) (hopen : a.live = true) (hpair : a.pair = p)
include hs hlive haccess hopen hpair

/-- Its record is ISSUED, has the access's entry, and the access is a read if it reads (R145). -/
theorem open_record : r.entry = a.entry ∧ r.position = .issued ∧ (r.reads = true → a.kind = .read) := by
  obtain ⟨-, ⟨-, haccessLaw⟩, -, -, -, -, hbound⟩ := hs
  subst hpair
  have hfits := (haccessLaw a haccess).1 hopen
  rw [hlive] at hfits
  simp only [Option.any_some, Bool.and_eq_true, decide_eq_true_eq] at hfits
  refine ⟨(hbound a haccess).2 hopen r hlive, hfits.1, fun hreads => ?_⟩
  cases hkind : a.kind with
  | read => rfl
  | write =>
    rw [hkind] at hfits
    have hwrites : r.writes = true := hfits.2
    revert hreads hwrites
    cases hk : r.kind <;> simp [TagRecord.reads, TagRecord.writes, hk]

omit hlive in
/-- Its entry is FILLING and bound to the pair (R67, R73). -/
theorem open_entry {e : EntryIx} (hentry : a.entry = some e) :
    ∃ (c : CaptureEntry) (n : Nat), s.entries[e] = some c ∧ c.state = .filling (some p) n := by
  obtain ⟨-, -, -, -, -, -, hbound⟩ := hs
  obtain ⟨c, hheld, hfilling⟩ := (Option.any_eq_true _ _).1 ((hbound a haccess).1 e hentry).2
  simp only [Bool.and_eq_true, decide_eq_true_eq, Access.binds, hopen, if_true, hpair] at hfilling
  revert hfilling
  cases hstate : c.state with
  | filling b n =>
    rintro ⟨-, hb⟩
    exact ⟨c, n, hheld, by rw [hstate]; exact congrArg (EntryState.filling · n) hb⟩
  | captured q => simp [CaptureEntry.isFilling, hstate]
  | stranded n t => simp [CaptureEntry.isFilling, hstate]

theorem allStranded_of_open : s.allStranded (only p) = s := by
  obtain ⟨hentry, -, -⟩ := open_record hs hlive haccess hopen hpair
  refine allStranded_of_none hs hlive fun e he c hc => ?_
  obtain ⟨b, n, hb, hstate⟩ := open_entry hs haccess hopen hpair (hentry.symm.trans he)
  obtain rfl := Option.some_inj.1 (hb.symm.trans hc)
  simp [CaptureEntry.isFilling, hstate]

variable (hkind : a.kind = .read)
include hkind

/-- A read without an entry goes on to the end of its beat, or ends at once (R156). -/
theorem bared_of_pass (hentry : a.entry = none) : DropsNext.bared p (s.allStranded (only p)) =
    (s.setTag p none).setAccess (a.flight.map fun _ => { a with live := false }) := by
  rw [allStranded_of_open hs hlive haccess hopen hpair, DropsNext.bared]
  cases hflight : a.flight with
  | some f =>
    have hend := endAccessOf_of_flight haccess hopen hpair hkind (by rw [hflight]; rfl)
    rw [hend.trans (congrArg (Option.elim · _ _) hentry)]
    simp only [Option.elim_none, Option.map_some, hflight]
    rfl
  | none =>
    have hend := endAccessOf_of_no_flight haccess hopen hpair hkind hflight
    rw [hend.trans (congrArg (Option.elim · _ _) hentry)]
    rfl

section
variable {e : EntryIx} {c : CaptureEntry} (hentry : a.entry = some e) (hheld : s.entries[e] = some c)
include hentry hheld

theorem bared_of_flight {b : Option Pair} {n : Nat} (hflight : a.flight.isSome = true) (hstate : c.state = .filling b n) :
    DropsNext.bared p (s.allStranded (only p)) = ((s.setTag p none).setAccess (some { a with live := false })).setEntry e
      (some { c with state := .filling none n }) := by
  rw [allStranded_of_open hs hlive haccess hopen hpair, DropsNext.bared,
    endAccessOf_of_bound_flight haccess hopen hpair hkind hflight hentry hheld hstate]
  rfl

omit hheld in
theorem bared_of_no_flight (hflight : a.flight = none) : DropsNext.bared p (s.allStranded (only p)) =
    (endUnbound e (s.setAccess none)).setTag p none := by
  have hend := endAccessOf_of_no_flight haccess hopen hpair hkind hflight
  rw [allStranded_of_open hs hlive haccess hopen hpair, DropsNext.bared, hend.trans (congrArg (Option.elim · _ _) hentry)]
  rfl

end

end

/-- Settles O19: nothing is stranded before the record goes, and its access ends with it. -/
theorem killEndsAnOpenRead : Obligations.KillEndsAnOpenRead := by
  intro p r a s hs hlive hverdict haccess hopen hpair
  have hkill := exec_kill_of_uncommitted hlive hverdict
  obtain ⟨-, -, hreads⟩ := open_record hs hlive haccess hopen hpair
  refine ⟨fun k v n hkind hentry hslot hmine hread hstate => ?_, fun hform => ?_⟩
  · have hbared := bared_of_pass hs hlive haccess hopen hpair (hreads (by simp [TagRecord.reads, hkind])) hentry
    rw [hkill, removeOne_eq,
      ((dropsFirst hs hlive hverdict).dropped_of_reserved hslot ⟨hmine, hread⟩ hstate).1, hbared]
    refine ⟨fun hflight => ?_, fun hflight => ?_⟩
    · obtain ⟨f, hf⟩ := Option.isSome_iff_exists.1 hflight
      rw [hf]
      rfl
    · rw [hflight]
      rfl
  · have hread : a.kind = .read := by
      refine hreads ?_
      obtain hkind | ⟨hkind, -⟩ := hform <;> simp [TagRecord.reads, hkind]
    have hnotWrite : r.kind ≠ .lockWrite := by
      obtain hkind | ⟨hkind, -⟩ := hform <;> simp [hkind]
    have hunread : ∀ k : SlotIx, ∀ v ∈ s.slots[k], ¬v.NamesLockRead p := by
      obtain hkind | ⟨-, hunread⟩ := hform
      · exact NamesLaw.unnamed hs.2.2.1 hlive (by simp [hkind])
      · exact hunread
    have hbared := removeOne_of_unnamed hs hlive hverdict (unnamed_of hs hlive (fun h => absurd h hnotWrite) hunread)
    rw [hkill, hbared]
    refine ⟨fun hflight => ⟨fun hentry => ?_, fun e c n hentry hheld hstate => ?_⟩,
      fun hflight => ⟨fun hentry => ?_, fun e c hentry hheld => ⟨fun hbeats => ?_, fun hbeats => ?_⟩⟩⟩
    · obtain ⟨f, hf⟩ := Option.isSome_iff_exists.1 hflight
      rw [bared_of_pass hs hlive haccess hopen hpair hread hentry, hf]
      rfl
    · rw [bared_of_flight hs hlive haccess hopen hpair hread hentry hheld hflight hstate]
    · rw [bared_of_pass hs hlive haccess hopen hpair hread hentry, hflight]
      rfl
    · rw [bared_of_no_flight hs hlive haccess hopen hpair hread hentry hflight,
        endUnbound_of_empty (s := s.setAccess none) hheld hbeats]
      rfl
    · rw [bared_of_no_flight hs hlive haccess hopen hpair hread hentry hflight,
        endUnbound_of_held (s := s.setAccess none) hheld hbeats]
      rfl

/-- Settles O20: what the record leaves of its reservation is that of one removal that begins with it. -/
theorem killOfALockedHalf : Obligations.KillOfALockedHalf := by
  intro p r k v s hs hlive hverdict hslot hmine
  have hkill := exec_kill_of_uncommitted hlive hverdict
  have hdrops := dropsFirst hs hlive hverdict
  have hremove : removeRecords [p] s = _ := removeOne_eq
  refine ⟨fun hkind hposition hentry hread => ⟨fun n hstate => ?_, fun t w hstate hw => ⟨fun hissued => ?_, fun hwaiting => ?_⟩⟩,
    fun hkind hposition hstate => ?_⟩
  · rw [hkill, hremove, (hdrops.dropped_of_reserved hslot ⟨hmine, hread⟩ hstate).1,
      bared_of_no_entry hs hlive hentry hposition]
  · rw [hkill, hremove, (hdrops.dropped_of_issued hslot ⟨hmine, hread⟩ hstate rfl hw hissued).1,
      bared_of_no_entry hs hlive hentry hposition]
  · rw [hkill, hremove, (hdrops.dropped_of_waiting hslot ⟨hmine, hread⟩ hstate rfl hw hwaiting).1,
      bared_of_no_entry hs hlive hentry hposition]
    rfl
  · rw [hkill, removeOne_of_lockWrite hs hlive hverdict hposition hslot hmine hstate]

/-! ## A due verdict timer (R52) -/

section
variable {s : State} {p : Pair} {r : TagRecord} {pl : Place}

theorem exec_due_verdict (hlive : s.tag p = some r) (hplace : r.place = some pl) (hverdict : r.verdict = .none)
    (hdue : r.timer = some 0) : exec (.verdictTimerExpiry p) s = .next (settle s ((removeRecords [p] (abandon p r s)).raise
      (recordEvent .verdictTimeout p pl (decide (r.response = .pending)).toNat 0))) := by
  change execVerdictTimerExpiry p s = _
  simp only [execVerdictTimerExpiry, expireVerdict, hlive, hdue, hverdict, and_self, if_true, timeoutEvent, hplace]

theorem abandon_of_sent (h : r.response = .sent) : abandon p r s = s := by
  simp only [abandon, h]

theorem abandon_of_pending (h : r.response = .pending) : abandon p r s =
    s.respond (if r.kind = .read ∨ r.kind = .lockRead then .data p .abandoned 0 [] else .ack p .abandoned) := by
  simp only [abandon, h]
  cases hkind : r.kind <;> simp [TagRecord.reads, hkind]

end

/-- Settles O25: the answer changes no table, so the removal after it is that of a KILL. -/
theorem verdictTimersAbandon : Obligations.VerdictTimersAbandon := by
  intro p r pl s hs hlive hplace hverdict hdue event
  have hexpiry := exec_due_verdict hlive hplace hverdict hdue
  refine ⟨fun hposition => ⟨fun hkind hresponse => ?_, fun hkind hresponse => ?_,
    fun k v hkind hresponse hslot hmine hstate => ?_⟩, fun hresponse => ⟨_, removes_one hs hlive hverdict, ?_⟩,
    fun hresponse => ?_⟩
  · rw [hexpiry, abandon_of_pending hresponse, if_pos (.inl hkind),
      removeOne_of_waiting (s := s.respond (.data p .abandoned 0 [])) hs hlive hverdict hposition (.inl hkind), hresponse]
    rfl
  · rw [hexpiry, abandon_of_sent hresponse, removeOne_of_waiting hs hlive hverdict hposition (.inr (.inl hkind)), hresponse]
    rfl
  · rw [hexpiry, abandon_of_pending hresponse, if_neg (by simp [hkind]),
      removeOne_of_lockWrite (s := s.respond (.ack p .abandoned)) hs hlive hverdict hposition hslot hmine hstate, hresponse]
    rfl
  · rw [hexpiry, abandon_of_sent hresponse, hresponse]
    rfl
  · rw [hexpiry, abandon_of_pending hresponse, hresponse]
    exact ⟨_, removes_one (s := s.respond _) hs hlive hverdict, rfl⟩

end Sys2Proof.Machine
end

section
/-! SUPPORT. The removal of uncommitted records keeps the laws of the tables. -/

namespace Sys2Proof.Machine

/-! ## What a removal leaves of one place -/

section
variable {s : State} {gone : Pair → Bool} {v v' : Reservation} {c c' : CaptureEntry} {n : Nat}

/-- A reservation that is left names no removed record (R139, R140). -/
theorem left_of_slotAfterRemoval (h : slotAfterRemoval s gone v = some v') :
    (∀ t : Tag, v.state = .writing t → gone ⟨v.initiator, t⟩ = false) ∧
      (v' = v ∧ (∀ l ∈ v.lockRead, gone ⟨v.initiator, l⟩ = false) ∨
        v' = { v with lockRead := none } ∧ ∃ t, v.state = .writing t ∧
          (s.tag ⟨v.initiator, t⟩).any (fun w => decide (w.position = .issued)) = true) := by
  have hread : (v.lockRead.any fun l => gone ⟨v.initiator, l⟩) = false → ∀ l ∈ v.lockRead, gone ⟨v.initiator, l⟩ = false := by
    intro hnone l hl
    rw [Option.mem_def.1 hl] at hnone
    exact hnone
  cases hstate : v.state with
  | reserved m =>
    rw [slotAfterRemoval_of_reserved hstate] at h
    split at h
    · cases h
    · rename_i hnone
      exact ⟨fun t ht => LockState.noConfusion ht, .inl ⟨(Option.some_inj.1 h).symm, hread (Bool.eq_false_iff.2 hnone)⟩⟩
  | writing t =>
    rw [slotAfterRemoval_of_writing hstate] at h
    split at h
    · cases h
    · rename_i hkept
      refine ⟨fun l hl => ?_, ?_⟩
      · obtain rfl : t = l := by simpa using hl
        exact Bool.eq_false_iff.2 hkept
      · split at h
        · split at h
          · exact .inr ⟨by rw [← hstate]; exact (Option.some_inj.1 h).symm, t, rfl, ‹_›⟩
          · cases h
        · rename_i hnone
          exact .inl ⟨(Option.some_inj.1 h).symm, hread (Bool.eq_false_iff.2 hnone)⟩

/-- An entry that is left is as it was, a fill that goes on unbound, or a strand with its beats (R78, R79). -/
theorem left_of_entryAfterRemoval (h : entryAfterRemoval s gone n c = some c') :
    (c' = c ∧ ∀ p ∈ c.state.boundTo, gone p = false) ∨
      (∃ b m, c.state = .filling b m ∧ b.any gone = true ∧ s.access.any (·.flight.isSome) = true ∧
        c' = { c with state := .filling none m }) ∨ c' = c.stranded n := by
  unfold entryAfterRemoval at h
  cases hstate : c.state with
  | stranded m t =>
    simp only [hstate, Option.some.injEq] at h
    exact .inl ⟨h.symm, fun p hp => (by cases hp)⟩
  | captured q =>
    simp only [hstate] at h
    split at h
    · exact .inr (.inr (Option.some_inj.1 h).symm)
    · rename_i hkept
      refine .inl ⟨(Option.some_inj.1 h).symm, fun p hp => ?_⟩
      obtain rfl : q = p := by simpa [EntryState.boundTo] using hp
      exact Bool.eq_false_iff.2 hkept
  | filling b m =>
    simp only [hstate] at h
    split at h
    · rename_i hgone
      split at h
      · exact .inr (.inl ⟨b, m, rfl, hgone, ‹_›, (Option.some_inj.1 h).symm⟩)
      · split at h
        · cases h
        · exact .inr (.inr (Option.some_inj.1 h).symm)
    · rename_i hkept
      refine .inl ⟨(Option.some_inj.1 h).symm, fun p hp => ?_⟩
      obtain rfl : b = some p := by simpa [EntryState.boundTo] using hp
      exact Bool.eq_false_iff.2 hkept

/-- What is left of an entry has its beats, and an entry that goes has none (R80). -/
theorem beats_entryAfterRemoval (n : Nat) (c : CaptureEntry) :
    (entryAfterRemoval s gone n c).elim [] (·.beats) = c.beats := by
  cases hleft : entryAfterRemoval s gone n c with
  | some c' =>
    obtain ⟨rfl, -⟩ | ⟨b, m, -, -, -, rfl⟩ | rfl := left_of_entryAfterRemoval hleft <;> rfl
  | none =>
    unfold entryAfterRemoval at hleft
    cases hstate : c.state with
    | stranded m t => simp [hstate] at hleft
    | captured q => simp [hstate] at hleft
    | filling b m =>
      simp only [hstate] at hleft
      split at hleft
      · split at hleft
        · cases hleft
        · split at hleft
          · rename_i hbeats
            exact hbeats.symm
          · cases hleft
      · cases hleft

end

/-! ## What a removal leaves of the tables -/

namespace Removes

variable {s u : State} {gone : Pair → Bool} (hs : Lawful s) (h : Removes gone s u)

section
include hs

/-- A LOCK-WRITE that is ended without write is one, and WAITING. -/
theorem ended_kind {q : Pair} (hended : EndsWithoutWrite s gone q) :
    ∃ w, s.tag q = some w ∧ w.kind = .lockWrite ∧ w.position = .waiting := by
  obtain ⟨-, hwaiting, k, v, hslot, hinitiator, hstate, -⟩ := hended
  obtain ⟨-, -, hnames, -⟩ := hs
  obtain ⟨w, hw, hposition⟩ := (Option.any_eq_true _ _).1 hwaiting
  have hkind := (hnames k v hslot).2 q.tag (by rw [hstate]; rfl)
  rw [hinitiator, hw] at hkind
  simp only [Option.any_some, Bool.and_eq_true, decide_eq_true_eq] at hkind
  exact ⟨w, hw, hkind.1, of_decide_eq_true hposition⟩

include h

theorem tag_kept {q : Pair} {w : TagRecord} (hkept : gone q = false) (hw : s.tag q = some w)
    (hkind : w.kind = .lockWrite → w.position ≠ .waiting) : u.tag q = some w := by
  obtain ⟨-, -, hsame, -⟩ := h
  rw [hsame q hkept fun hended => ?_, hw]
  obtain ⟨x, hx, hlockWrite, hwaiting⟩ := ended_kind hs hended
  obtain rfl := Option.some_inj.1 (hx.symm.trans hw)
  exact hkind hlockWrite hwaiting

/-- A record that is left is as it was, or a LOCK-WRITE that has been ended without write. -/
theorem tag_left {q : Pair} {w : TagRecord} (hw : u.tag q = some w) :
    gone q = false ∧ s.tag q = some w ∧ ¬EndsWithoutWrite s gone q ∨
      ∃ x, s.tag q = some x ∧ x.kind = .lockWrite ∧ w = { x with position := .done, data := [], response := .sent } := by
  obtain ⟨hfree, hended, hsame, -⟩ := h
  cases hgone : gone q with
  | true =>
    rw [hfree q hgone] at hw
    cases hw
  | false =>
    by_cases hends : EndsWithoutWrite s gone q
    · obtain ⟨x, hx, hkind, -⟩ := ended_kind hs hends
      have hleft := (hended q hends x hx).1
      rw [hw] at hleft
      split at hleft
      · cases hleft
      · exact .inr ⟨x, hx, hkind, Option.some_inj.1 hleft⟩
    · rw [hsame q hgone hends] at hw
      exact .inl ⟨rfl, hw, hends⟩

end

section
include h

theorem slot_left {k : SlotIx} {v' : Reservation} (hv : u.slots[k] = some v') :
    ∃ v, s.slots[k] = some v ∧ slotAfterRemoval s gone v = some v' := by
  obtain ⟨-, -, -, -, hslots, -⟩ := h
  rw [hslots] at hv
  exact Option.bind_eq_some_iff.1 hv

theorem entry_left {e : EntryIx} {c' : CaptureEntry} (hc : u.entries[e] = some c') :
    ∃ c n, s.entries[e] = some c ∧ entryAfterRemoval s gone n c = some c' := by
  obtain ⟨-, -, -, -, -, ⟨number, hentries, -⟩, -⟩ := h
  rw [hentries] at hc
  obtain ⟨c, hheld, hleft⟩ := Option.bind_eq_some_iff.1 hc
  exact ⟨c, _, hheld, hleft⟩

/-- An entry that is bound to no removed record stays. -/
theorem entry_kept {e : EntryIx} {c : CaptureEntry} (hc : s.entries[e] = some c)
    (hkept : ∀ p ∈ c.state.boundTo, gone p = false) : u.entries[e] = some c := by
  obtain ⟨-, -, -, -, -, ⟨number, hentries, -⟩, -⟩ := h
  rw [hentries, hc, Option.bind_some, entryAfterRemoval_of_unbound hkept]

theorem access_left {a' : Access} (ha : u.access = some a') : ∃ a, s.access = some a ∧
    (a' = a ∧ ¬(a.live = true ∧ a.kind = .read ∧ gone a.pair = true) ∨
      a.flight.isSome = true ∧ (a.live = true ∧ a.kind = .read ∧ gone a.pair = true) ∧ a' = { a with live := false }) := by
  obtain ⟨-, -, -, -, -, -, haccess, -⟩ := h
  rw [haccess] at ha
  obtain ⟨a, hopen, hleft⟩ := Option.bind_eq_some_iff.1 ha
  refine ⟨a, hopen, ?_⟩
  split at hleft
  · rename_i hreached
    obtain ⟨f, hf, hsame⟩ := Option.map_eq_some_iff.1 hleft
    exact .inr ⟨by rw [hf]; rfl, hreached, hsame.symm⟩
  · exact .inl ⟨(Option.some_inj.1 hleft).symm, ‹_›⟩

theorem lockLost_eq : u.lockLost = s.lockLost := by
  obtain ⟨-, -, -, -, -, -, -, honly⟩ := h
  rw [honly]

end

/-! ## The laws after a removal -/

variable (hgone : ∀ q, gone q = true → ∀ r ∈ s.tag q, r.verdict = .none)

section
include hs h

theorem lockLaw : LockLaw u := by
  refine hs.1.of_less (fun k v' hv => ?_) fun i hi => by rwa [lockLost_eq h] at hi
  obtain ⟨v, hslot, hleft⟩ := slot_left h hv
  refine ⟨v, hslot, ?_⟩
  obtain rfl | rfl := eq_of_slotAfterRemoval hleft <;> rfl

theorem namesLaw : NamesLaw u := by
  intro k v' hv
  obtain ⟨v, hslot, hleft⟩ := slot_left h hv
  obtain ⟨hread, hwrite⟩ := hs.2.2.1 k v hslot
  obtain ⟨hwriteKept, hform⟩ := left_of_slotAfterRemoval hleft
  refine ⟨fun t ht => ?_, fun t ht => ?_⟩
  · obtain ⟨rfl, hreadKept⟩ | ⟨rfl, -⟩ := hform
    · obtain ⟨w, hw, hkind⟩ := (Option.any_eq_true _ _).1 (hread t ht)
      rw [tag_kept hs h (hreadKept t ht) hw fun hlockWrite => by simp [hlockWrite] at hkind]
      exact hkind
    · cases ht
  · have hstate : v.state = .writing t := by
      have hsame : v'.state = v.state := by obtain ⟨rfl, -⟩ | ⟨rfl, -⟩ := hform <;> rfl
      rw [hsame] at ht
      cases hv : v.state with
      | reserved n => rw [hv] at ht; cases ht
      | writing l => rw [hv] at ht; rw [Option.some_inj.1 ht]
    have hinitiator : v'.initiator = v.initiator := by obtain ⟨rfl, -⟩ | ⟨rfl, -⟩ := hform <;> rfl
    obtain ⟨w, hw, hkind⟩ := (Option.any_eq_true _ _).1 (hwrite t (by rw [hstate]; rfl))
    have hends : ¬EndsWithoutWrite s gone ⟨v.initiator, t⟩ := by
      rintro ⟨-, hwaiting, l, x, hx, hsame, hstate', m, hm, hreadGone⟩
      have hl : l = k := by
        by_contra hne
        exact (hs.1.1 l k hne x hx v hslot).1 hsame
      subst hl
      obtain rfl := Option.some_inj.1 (hx.symm.trans hslot)
      obtain ⟨rfl, hreadKept⟩ | ⟨-, l, hl, hissued⟩ := hform
      · rw [hreadKept m hm] at hreadGone
        cases hreadGone
      · obtain rfl : t = l := by simpa [hstate] using hl
        rw [hw] at hissued hwaiting
        simp only [Option.any_some, decide_eq_true_eq] at hissued hwaiting
        rw [hissued] at hwaiting
        cases hwaiting
    rw [hinitiator, h.2.2.1 _ (hwriteKept t hstate) hends, hw]
    exact hkind

theorem writingLaw : WritingLaw u := by
  intro i t w hw hkind hposition
  obtain ⟨hkept, hbefore, hends⟩ | ⟨x, -, -, rfl⟩ := tag_left hs h hw
  · obtain ⟨k, v, hslot, hinitiator, hstate, hplace⟩ := hs.2.2.2.1 i t w hbefore hkind hposition
    have hslots := h.2.2.2.2.1 k
    rw [Option.mem_def.1 hslot, Option.bind_some, slotAfterRemoval_of_writing hstate, hinitiator, hkept] at hslots
    simp only [Bool.false_eq_true, if_false] at hslots
    split at hslots
    · rename_i hread
      have hissued : w.position = .issued := by
        cases hp : w.position with
        | issued => rfl
        | done => exact absurd hp hposition
        | waiting =>
          obtain ⟨l, hl, hreadGone⟩ := (Option.any_eq_true _ _).1 hread
          exact absurd ⟨hkept, by rw [hbefore]; simp [hp], k, v, hslot, hinitiator, hstate, l, hl, hreadGone⟩ hends
      rw [hbefore] at hslots
      simp only [Option.any_some, hissued, decide_true, if_true] at hslots
      exact ⟨k, _, hslots, rfl, hstate, hplace⟩
    · exact ⟨k, v, hslots, hinitiator, hstate, hplace⟩
  · exact absurd rfl hposition

theorem recordsBound : RecordsBound u := by
  intro i t r hr e he
  obtain ⟨hkept, hbefore, -⟩ | ⟨x, hx, hkind, rfl⟩ := tag_left hs h hr
  · obtain ⟨hreads, hposition, hbound⟩ := hs.2.2.2.2.1 i t r hbefore e he
    refine ⟨hreads, hposition, ?_⟩
    obtain ⟨c, hheld, hmine⟩ := (Option.any_eq_true _ _).1 hbound
    simp only [Bool.and_eq_true, decide_eq_true_eq] at hmine
    rw [entry_kept h hheld fun p hp => ?_]
    · simpa using hmine
    · rw [hmine.1] at hp
      obtain rfl := Option.some_inj.1 hp
      exact hkept
  · have hreads := (hs.2.2.2.2.1 i t x hx e he).1
    simp [TagRecord.reads, hkind] at hreads

theorem entriesBound : EntriesBound u := by
  intro e c' hc'
  obtain ⟨c, n, hheld, hleft⟩ := entry_left h hc'
  obtain ⟨hbound, hfill⟩ := hs.2.2.2.2.2.1 e c hheld
  obtain ⟨rfl, hkept⟩ | ⟨b, m, hstate, hgoneBound, hflight, rfl⟩ | rfl := left_of_entryAfterRemoval hleft
  · refine ⟨fun p hp => ?_, fun hfilling => ?_⟩
    · obtain ⟨r, hr, hentry⟩ := (Option.any_eq_true _ _).1 (hbound p hp)
      rw [tag_kept hs h (hkept p hp) hr fun hkind => ?_]
      · exact hentry
      · have hreads := (hs.2.2.2.2.1 p.initiator p.tag r hr e (of_decide_eq_true hentry)).1
        simp [TagRecord.reads, hkind] at hreads
    · obtain ⟨a, ha, hentry, hkind, hbinds⟩ := hs.2.2.2.2.of_filling hheld hfilling
      have hopen : u.access = some a := by
        rw [h.2.2.2.2.2.2.1, ha, Option.bind_some, if_neg]
        rintro ⟨hlive, -, hgonePair⟩
        rw [Access.binds, if_pos hlive] at hbinds
        rw [hkept a.pair hbinds] at hgonePair
        cases hgonePair
      rw [hopen]
      simp [hentry]
  · refine ⟨fun p hp => (by cases hp), fun _ => ?_⟩
    obtain ⟨a, ha, hentry, hkind, hbinds⟩ := hs.2.2.2.2.of_filling hheld (by simp [CaptureEntry.isFilling, hstate])
    rw [h.2.2.2.2.2.2.1, ha, Option.bind_some]
    obtain ⟨f, hf⟩ : ∃ f, a.flight = some f := by
      rw [ha] at hflight
      exact Option.isSome_iff_exists.1 hflight
    split
    · simp [hf, hentry]
    · simp [hentry]
  · exact ⟨fun p hp => (by cases hp), fun hfilling => (by cases hfilling)⟩

theorem accessBound : AccessBound u := by
  intro a' ha'
  obtain ⟨a, ha, hform⟩ := access_left h ha'
  obtain ⟨hentry, hrecord⟩ := hs.2.2.2.2.2.2 a ha
  have hbind {e : EntryIx} (he : a.entry = some e) : ∃ c, s.entries[e] = some c ∧ c.isFilling = true ∧
      c.state.boundTo = a.binds := by
    obtain ⟨c, hheld, hboth⟩ := (Option.any_eq_true _ _).1 (hentry e he).2
    simp only [Bool.and_eq_true, decide_eq_true_eq] at hboth
    exact ⟨c, hheld, hboth⟩
  obtain ⟨rfl, hother⟩ | ⟨hflight, ⟨hlive, hkind, hgonePair⟩, rfl⟩ := hform
  · refine ⟨fun e he => ⟨(hentry e he).1, ?_⟩, fun hlive r hr => ?_⟩
    · obtain ⟨c, hheld, hfilling, hbinds⟩ := hbind he
      rw [entry_kept h hheld fun p hp => ?_]
      · simp [hfilling, hbinds]
      · rw [hbinds, Access.binds] at hp
        split at hp
        · rename_i hlive
          obtain rfl := Option.some_inj.1 hp
          exact Bool.eq_false_iff.2 fun hgonePair => hother ⟨hlive, (hentry e he).1, hgonePair⟩
        · cases hp
    · obtain ⟨-, hbefore, -⟩ | ⟨x, hx, -, rfl⟩ := tag_left hs h hr
      · exact hrecord hlive r hbefore
      · exact hrecord hlive x hx
  · refine ⟨fun e he => ⟨hkind, ?_⟩, fun hlive => Bool.noConfusion hlive⟩
    obtain ⟨c, hheld, hfilling, hbinds⟩ := hbind he
    rw [Access.binds, if_pos hlive] at hbinds
    obtain ⟨m, hstate⟩ : ∃ m, c.state = .filling (some a.pair) m := by
      revert hfilling hbinds
      cases hstate : c.state <;> simp [CaptureEntry.isFilling, EntryState.boundTo, hstate]
    obtain ⟨-, -, -, -, -, ⟨number, hentries, -⟩, -⟩ := h
    rw [hentries, hheld, Option.bind_some]
    simp only [entryAfterRemoval, hstate, Option.any_some, hgonePair, ha, hflight, if_true]
    rfl

include hgone

theorem accessLaw : AccessLaw u := by
  obtain ⟨hissued, haccess⟩ := hs.2.1
  refine ⟨fun i t r hr hwrites hposition => ?_, fun a' ha' => ?_⟩
  · obtain ⟨-, hbefore, -⟩ | ⟨x, -, -, rfl⟩ := tag_left hs h hr
    · exact hissued i t r hbefore hwrites hposition
    · cases hposition
  · obtain ⟨a, ha, hform⟩ := access_left h ha'
    obtain ⟨hlive, hwrite, hfirst⟩ := haccess a ha
    obtain ⟨rfl, hother⟩ | ⟨-, ⟨-, hkind, -⟩, rfl⟩ := hform
    · refine ⟨fun hopen => ?_, hwrite, hfirst⟩
      obtain ⟨r, hr, hfits⟩ := (Option.any_eq_true _ _).1 (hlive hopen)
      simp only [Bool.and_eq_true, decide_eq_true_eq] at hfits
      have hkept : gone a'.pair = false := by
        refine Bool.eq_false_iff.2 fun hgonePair => ?_
        cases hkind : a'.kind with
        | read => exact hother ⟨hopen, hkind, hgonePair⟩
        | write =>
          have hwrites : r.writes = true := by rw [hkind] at hfits; exact hfits.2
          have hcommitted := hissued a'.pair.initiator a'.pair.tag r hr hwrites hfits.1
          rw [hgone _ hgonePair r hr] at hcommitted
          cases hcommitted
      rw [tag_kept hs h hkept hr fun _ => by simp [hfits.1]]
      simpa using hfits
    · exact ⟨fun hopen => Bool.noConfusion hopen, fun hw => AccessKind.noConfusion (hkind.symm.trans hw), hfirst⟩

/-- The removal of uncommitted records keeps the laws of the tables. -/
theorem lawful : Lawful u :=
  ⟨lockLaw hs h, accessLaw hs h hgone, namesLaw hs h, writingLaw hs h, recordsBound hs h, entriesBound hs h, accessBound hs h⟩

end

end Removes

end Sys2Proof.Machine
end

section
/-! SUPPORT. The laws of the tables when one record changes, with its entry and the access; when strands go; and over the
rest of an event. -/

namespace Sys2Proof.Machine

/-! ## One record changes -/

/-- The entry is FREE or a strand: nothing is bound to it and no access fills it. -/
abbrev Loose (o : Option CaptureEntry) : Prop := ∀ c ∈ o, c.isStrand = true

theorem not_bound_of_strand {c : CaptureEntry} (h : c.isStrand = true) : c.state.boundTo = none ∧ c.isFilling = false := by
  revert h
  cases hstate : c.state <;> simp [CaptureEntry.isStrand, EntryState.boundTo, CaptureEntry.isFilling, hstate]

/-- The slots of `u` are those of `s`, some free, some without their lock-read record. -/
abbrev FewerSlots (s u : State) : Prop :=
  ∀ k : SlotIx, ∀ v ∈ u.slots[k], ∃ w ∈ s.slots[k], v = w ∨ v = { w with lockRead := none }

section
variable {s u : State} {p : Pair}

theorem FewerSlots.of_same (h : u.slots = s.slots) : FewerSlots s u := fun _ v hv => ⟨v, by rwa [← h], .inl rfl⟩

theorem FewerSlots.lockLaw (hslots : FewerSlots s u) (hlaw : LockLaw s)
    (hflags : ∀ i : Initiator, u.lockLost[i] = true → s.lockLost[i] = true) : LockLaw u := by
  refine hlaw.of_less (fun k v hv => ?_) hflags
  obtain ⟨w, hw, rfl | rfl⟩ := hslots k v hv
  · exact ⟨v, hw, rfl⟩
  · exact ⟨w, hw, rfl⟩

variable (htags : ∀ q : Pair, q ≠ p → u.tag q = s.tag q)
include htags

theorem NamesLaw.of_one (h : NamesLaw s) (hslots : FewerSlots s u)
    (hread : ∀ k : SlotIx, ∀ v ∈ u.slots[k], v.NamesLockRead p →
      (u.tag p).any (fun w => decide (w.kind = .lockRead)) = true)
    (hwrite : ∀ k : SlotIx, ∀ v ∈ u.slots[k], v.initiator = p.initiator → v.state = .writing p.tag →
      (u.tag p).any (fun w => decide (w.kind = .lockWrite) && !decide (w.position = .done)) = true) : NamesLaw u := by
  intro k v hv
  obtain ⟨w, hw, hvw⟩ := hslots k v hv
  obtain ⟨hreadBefore, hwriteBefore⟩ := h k w hw
  have hinitiator : v.initiator = w.initiator := by obtain rfl | rfl := hvw <;> rfl
  have hstate : v.state = w.state := by obtain rfl | rfl := hvw <;> rfl
  refine ⟨fun t ht => ?_, fun t ht => ?_⟩
  · by_cases hp : (⟨v.initiator, t⟩ : Pair) = p
    · rw [hp]
      exact hread k v hv ⟨congrArg Pair.initiator hp, ht.trans (congrArg (some <| Pair.tag ·) hp)⟩
    · rw [htags _ hp, hinitiator]
      obtain rfl | rfl := hvw
      · exact hreadBefore t ht
      · cases ht
  · by_cases hp : (⟨v.initiator, t⟩ : Pair) = p
    · rw [hp]
      refine hwrite k v hv (congrArg Pair.initiator hp) ?_
      cases hv' : v.state with
      | reserved n =>
        rw [hv'] at ht
        cases ht
      | writing l =>
        rw [hv'] at ht
        rw [Option.some_inj.1 ht, ← hp]
    · rw [htags _ hp, hinitiator]
      exact hwriteBefore t (hstate ▸ ht)

theorem WritingLaw.of_one (h : WritingLaw s)
    (hslots : ∀ k : SlotIx, ∀ w ∈ s.slots[k], ∀ t : Tag, w.state = .writing t → (⟨w.initiator, t⟩ : Pair) ≠ p →
      ∃ v ∈ u.slots[k], v = w ∨ v = { w with lockRead := none })
    (hp : ∀ w ∈ u.tag p, w.kind = .lockWrite → w.position ≠ .done → ∃ k : SlotIx, ∃ v ∈ u.slots[k],
      v.initiator = p.initiator ∧ v.state = .writing p.tag ∧
        ∀ pl ∈ w.place, v.select = pl.select ∧ v.granule.toNat = pl.start.toNat / 8 * 8) : WritingLaw u := by
  intro i t w hw hkind hposition
  by_cases hit : (⟨i, t⟩ : Pair) = p
  · obtain rfl := hit
    exact hp w hw hkind hposition
  · rw [htags _ hit] at hw
    obtain ⟨k, v, hslot, rfl, hstate, hplace⟩ := h i t w hw hkind hposition
    obtain ⟨x, hx, rfl | rfl⟩ := hslots k v hslot t hstate hit
    · exact ⟨k, x, hx, rfl, hstate, hplace⟩
    · exact ⟨k, _, hx, rfl, hstate, hplace⟩

theorem AccessLaw.of_one (h : AccessLaw s)
    (hp : ∀ r ∈ u.tag p, r.writes = true → r.position = .issued → r.verdict = .committed)
    (haccess : ∀ a ∈ u.access,
      (a.live = true → (u.tag a.pair).any (fun r => decide (r.position = .issued) && fits a.kind r) = true) ∧
      (a.kind = .write → a.live = true) ∧ (a.entry = none → a.first = 0)) : AccessLaw u := by
  refine ⟨fun i t r hr => ?_, haccess⟩
  by_cases hit : (⟨i, t⟩ : Pair) = p
  · rw [hit] at hr
    exact hp r hr
  · rw [htags _ hit] at hr
    exact h.1 i t r hr

/-- Besides the record of `p`, the entry `o`, if any, changes, to which no other record is bound, and the access. -/
theorem BindingLaw.of_one (h : BindingLaw s) {o : Option EntryIx}
    (hentries : ∀ d : EntryIx, o ≠ some d → u.entries[d] = s.entries[d] ∨ Loose s.entries[d] ∧ Loose u.entries[d])
    (hold : ∀ r ∈ s.tag p, ∀ d ∈ r.entry, o = some d)
    (hown : ∀ d ∈ o, ∀ c ∈ s.entries[d], ∀ q ∈ c.state.boundTo, q = p)
    (hstays : ∀ a ∈ s.access, ∀ d ∈ a.entry, o ≠ some d → u.access.any (fun a => decide (a.entry = some d)) = true)
    (hrecord : ∀ r ∈ u.tag p, ∀ e ∈ r.entry, r.reads = true ∧ r.position ≠ .waiting ∧
      (u.entries[e]).any (fun c => decide (c.state.boundTo = some p) &&
        (c.isFilling || decide (r.verdict = .none) && decide (r.position = .done) && decide (r.response = .sent))) = true)
    (hentry : ∀ d ∈ o, ∀ c ∈ u.entries[d],
      (∀ q ∈ c.state.boundTo, q = p ∧ (u.tag p).any (fun r => decide (r.entry = some d)) = true) ∧
      (c.isFilling = true → u.access.any (fun a => decide (a.entry = some d)) = true))
    (hopen : AccessBound u) : BindingLaw u := by
  obtain ⟨hrecords, hentriesBound, -⟩ := h
  refine ⟨fun i t r hr e he => ?_, fun e c hc => ?_, hopen⟩
  · by_cases hit : (⟨i, t⟩ : Pair) = p
    · obtain rfl := hit
      exact hrecord r hr e he
    · rw [htags _ hit] at hr
      obtain ⟨hreads, hposition, hbound⟩ := hrecords i t r hr e he
      refine ⟨hreads, hposition, ?_⟩
      obtain ⟨c, hheld, hmine⟩ := (Option.any_eq_true _ _).1 hbound
      have hmine' : c.state.boundTo = some ⟨i, t⟩ := by
        simp only [Bool.and_eq_true, decide_eq_true_eq] at hmine
        exact hmine.1
      by_cases ho : o = some e
      · exact absurd (hown e ho c hheld ⟨i, t⟩ hmine') hit
      · obtain hsame | ⟨hloose, -⟩ := hentries e ho
        · rw [hsame, hheld]
          exact hmine
        · rw [(not_bound_of_strand (hloose c hheld)).1] at hmine'
          cases hmine'
  · by_cases ho : o = some e
    · obtain ⟨hbound, hfilling⟩ := hentry e ho c hc
      refine ⟨fun q hq => ?_, hfilling⟩
      obtain ⟨rfl, hany⟩ := hbound q hq
      exact hany
    · obtain hsame | ⟨-, hloose⟩ := hentries e ho
      · simp only [hsame] at hc
        obtain ⟨hbound, hfilling⟩ := hentriesBound e c hc
        refine ⟨fun q hq => ?_, fun hfill => ?_⟩
        · by_cases hqp : q = p
          · obtain ⟨r, hr, hmine⟩ := (Option.any_eq_true _ _).1 (hbound q hq)
            subst hqp
            exact absurd (hold r hr e (of_decide_eq_true hmine)) ho
          · rw [htags q hqp]
            exact hbound q hq
        · obtain ⟨a, ha, hmine⟩ := (Option.any_eq_true _ _).1 (hfilling hfill)
          exact hstays a ha e (of_decide_eq_true hmine) ho
      · obtain ⟨hunbound, hnot⟩ := not_bound_of_strand (hloose c hc)
        rw [hunbound, hnot]
        exact ⟨fun q hq => (by cases hq), fun hfill => (by cases hfill)⟩

end

/-! ## Only strands change -/

section
variable {s u : State}

/-- Strands that go or change, and what is no table, are no concern of the laws. -/
theorem Lawful.of_loose (hs : Lawful s) (htags : u.tags = s.tags) (hslots : u.slots = s.slots)
    (hflags : u.lockLost = s.lockLost) (haccess : u.access = s.access)
    (hentries : ∀ d : EntryIx, u.entries[d] = s.entries[d] ∨ Loose s.entries[d] ∧ Loose u.entries[d]) : Lawful u := by
  obtain ⟨hlock, haccessLaw, hnames, hwriting, hbinding⟩ := hs
  have htag (q : Pair) : u.tag q = s.tag q := State.tag_congr htags q
  have hopen : AccessBound u := by
    intro a ha
    rw [haccess] at ha
    obtain ⟨hentry, hrecord⟩ := hbinding.2.2 a ha
    refine ⟨fun e he => ⟨(hentry e he).1, ?_⟩, fun hlive r hr => hrecord hlive r (by rwa [htag] at hr)⟩
    obtain ⟨c, hheld, hmine⟩ := (Option.any_eq_true _ _).1 (hentry e he).2
    obtain hsame | ⟨hloose, -⟩ := hentries e
    · rw [hsame, hheld]
      exact hmine
    · simp [(not_bound_of_strand (hloose c hheld)).2] at hmine
  refine ⟨hlock.of_same hslots hflags, ?_, ?_, ?_, ?_⟩
  · refine ⟨fun i t r hr => haccessLaw.1 i t r (by rwa [htag] at hr), fun a ha => ?_⟩
    rw [haccess] at ha
    rw [htag]
    exact haccessLaw.2 a ha
  · simpa only [NamesLaw, htag, hslots] using hnames
  · simpa only [WritingLaw, htag, hslots] using hwriting
  · refine ⟨fun i t r hr e he => ?_, fun e c hc => ?_, hopen⟩
    · obtain ⟨hreads, hposition, hbound⟩ := hbinding.1 i t r (by rwa [htag] at hr) e he
      refine ⟨hreads, hposition, ?_⟩
      obtain ⟨c, hheld, hmine⟩ := (Option.any_eq_true _ _).1 hbound
      obtain hsame | ⟨hloose, -⟩ := hentries e
      · rw [hsame, hheld]
        exact hmine
      · simp [(not_bound_of_strand (hloose c hheld)).1] at hmine
    · simp only [htag, haccess]
      obtain hsame | ⟨-, hloose⟩ := hentries e
      · simp only [hsame] at hc
        exact hbinding.2.1 e c hc
      · obtain ⟨hunbound, hnot⟩ := not_bound_of_strand (hloose c hc)
        rw [hunbound, hnot]
        exact ⟨fun q hq => (by cases hq), fun hfill => (by cases hfill)⟩

theorem Lawful.of_same (hs : Lawful s) (htags : u.tags = s.tags) (hslots : u.slots = s.slots)
    (hflags : u.lockLost = s.lockLost) (haccess : u.access = s.access) (hentries : u.entries = s.entries) : Lawful u :=
  hs.of_loose htags hslots hflags haccess fun d => .inl (by simp only [hentries])

theorem Lawful.raise (hs : Lawful s) (e : EventRecord) : Lawful (s.raise e) := hs.of_same rfl rfl rfl rfl rfl

theorem Lawful.respond (hs : Lawful s) (r : Response) : Lawful (s.respond r) := hs.of_same rfl rfl rfl rfl rfl

/-- Strands are freed. -/
theorem Lawful.freeEntries (hs : Lawful s) {es : List Numbered}
    (hes : ∀ x ∈ es, s.entries[x.1] = some x.2 ∧ x.2.isStrand = true) : Lawful (freeEntries es s) := by
  obtain ⟨_, honly⟩ := freeEntries_only es s
  refine hs.of_loose (by rw [honly]) (by rw [honly]) (by rw [honly]) (by rw [honly]) fun d => ?_
  rw [entries_freeEntries]
  split
  · rename_i hmem
    obtain ⟨x, hx, rfl⟩ := List.mem_map.1 hmem
    obtain ⟨hheld, hstrand⟩ := hes x hx
    rw [hheld]
    exact .inr ⟨fun c hc => Option.some_inj.1 hc ▸ hstrand, fun c hc => (by cases hc)⟩
  · exact .inl rfl

theorem Lawful.discard (hs : Lawful s) {es : List Numbered}
    (hes : ∀ x ∈ es, s.entries[x.1] = some x.2 ∧ x.2.isStrand = true) (event : EventRecord) :
    Lawful (discard es event s) := by
  unfold Machine.discard
  split
  · exact hs
  · exact (hs.freeEntries hes).raise _

theorem Lawful.makeChange (hs : Lawful s) (r : RegionIx) : Lawful (makeChange r s) :=
  (hs.of_same (u := { s with regions := s.regions.set r s.staging }) rfl rfl rfl rfl rfl).discard
    (fun x hx => (State.mem_entriesWhere _ _ x).1 hx |>.imp_right fun hof => (Bool.and_eq_true_iff.1 hof).1) _

end

/-! ## A record that nothing names goes -/

section
variable {s : State} {p : Pair} {r : TagRecord}

/-- A record without an entry that is not ISSUED and that no reservation names. -/
theorem Lawful.setTag_none (hs : Lawful s) (hr : s.tag p = some r) (hentry : r.entry = none) (hposition : r.position ≠ .issued)
    (hunnamed : ∀ k : SlotIx, ∀ v ∈ s.slots[k], ¬v.Names p) : Lawful (s.setTag p none) := by
  obtain ⟨hlock, haccess, hnames, hwriting, hbinding⟩ := hs
  have htags (q : Pair) (hq : q ≠ p) : (s.setTag p none).tag q = s.tag q := State.tag_setTag_of_ne s hq none
  have hgone : (s.setTag p none).tag p = none := State.tag_setTag_self ..
  have hnot (a : Access) (ha : a ∈ s.access) (hlive : a.live = true) : a.pair ≠ p := by
    rintro rfl
    obtain ⟨x, hx, hfits⟩ := (Option.any_eq_true _ _).1 ((haccess.2 a ha).1 hlive)
    obtain rfl := Option.some_inj.1 (hx.symm.trans hr)
    simp only [Bool.and_eq_true, decide_eq_true_eq] at hfits
    exact hposition hfits.1
  refine ⟨hlock, .of_one htags haccess (fun x hx => (by rw [hgone] at hx; cases hx)) fun a ha =>
      ⟨fun hlive => ?_, (haccess.2 a ha).2⟩,
    .of_one htags hnames (.of_same rfl) (fun k v hv hn => absurd ⟨hn.1, .inl hn.2⟩ (hunnamed k v hv))
      fun k v hv hi hstate => absurd ⟨hi, .inr hstate⟩ (hunnamed k v hv),
    .of_one htags hwriting (fun k w hw _ _ _ => ⟨w, hw, .inl rfl⟩) fun x hx => (by rw [hgone] at hx; cases hx),
    .of_one (o := none) htags hbinding (fun d _ => .inl rfl) (fun x hx d hd => ?_) (fun d hd => (by cases hd))
      (fun a ha d hd _ => by simpa [Option.mem_def.1 ha] using hd) (fun x hx => (by rw [hgone] at hx; cases hx))
      (fun d hd => (by cases hd)) fun a ha => ⟨(hbinding.2.2 a ha).1, fun hlive x hx => ?_⟩⟩
  · rw [htags _ (hnot a ha hlive)]
    exact (haccess.2 a ha).1 hlive
  · obtain rfl := Option.some_inj.1 (hr.symm.trans hx)
    rw [hentry] at hd
    cases hd
  · rw [htags _ (hnot a ha hlive)] at hx
    exact (hbinding.2.2 a ha).2 hlive x hx

/-- A RESERVED reservation goes, and the flag of an initiator is cleared. -/
theorem Lawful.setSlot_none (hs : Lawful s) {k : SlotIx} {v : Reservation} (hslot : s.slots[k] = some v) {n : Nat}
    (hstate : v.state = .reserved n) : Lawful (s.setSlot k none) := by
  obtain ⟨hlock, haccess, hnames, hwriting, hbinding⟩ := hs
  have hfewer : FewerSlots s (s.setSlot k none) := by
    intro l w hw
    rw [State.slots_setSlot] at hw
    split at hw
    · cases hw
    · exact ⟨w, hw, .inl rfl⟩
  refine ⟨hfewer.lockLaw hlock fun _ hi => hi, haccess, fun l w hw => ?_, fun i t w hw hkind hposition => ?_, hbinding⟩
  · obtain ⟨x, hx, rfl | rfl⟩ := hfewer l w hw
    · exact hnames l w hx
    · exact ⟨fun t ht => (by cases ht), (hnames l x hx).2⟩
  · obtain ⟨l, x, hx, hinitiator, hwritingState, hplace⟩ := hwriting i t w hw hkind hposition
    refine ⟨l, x, ?_, hinitiator, hwritingState, hplace⟩
    rw [State.slots_setSlot, if_neg]
    · exact hx
    · rintro rfl
      obtain rfl := Option.some_inj.1 (hslot.symm.trans hx)
      rw [hstate] at hwritingState
      cases hwritingState

theorem Lawful.setLockLost_false (hs : Lawful s) (i : Initiator) : Lawful (s.setLockLost i false) := by
  obtain ⟨hlock, hrest⟩ := hs
  refine ⟨hlock.of_less (fun k v hv => ⟨v, hv, rfl⟩) fun j hj => ?_, hrest⟩
  rw [State.lockLost_setLockLost] at hj
  split at hj
  · cases hj
  · exact hj

/-- The performing of a ready UNLOCK keeps the laws (R141). -/
theorem Lawful.performUnlock (hs : Lawful s) (hready : s.Ready p) : Lawful (performUnlock p s) := by
  obtain ⟨r, hr, hkind, -, hwaiting, -⟩ := id hready
  have hunnamed := unnamed_of hs hr (by simp [hkind]) (NamesLaw.unnamed hs.2.2.1 hr (by simp [hkind]))
  have hgone := hs.setTag_none hr (entry_of_waiting hs hr hwaiting) (by simp [hwaiting]) hunnamed
  by_cases hheld : ∃ (k : SlotIx) (v : Reservation), s.slots[k] = some v ∧ v.initiator = p.initiator
  · obtain ⟨k, v, hslot, hmine⟩ := hheld
    cases hstate : v.state with
    | reserved n =>
      rw [performUnlock_of_reserved hs hready rfl hslot hmine hstate]
      exact (hgone.setSlot_none (s := s.setTag p none) hslot hstate).respond _
    | writing t =>
      rw [performUnlock_of_writing hs hready rfl hslot hmine hstate]
      exact hgone.respond _
  · push Not at hheld
    rw [performUnlock_of_none_held hs hready rfl fun k v hv => hheld k v hv]
    exact (hgone.setLockLost_false _).respond _

/-- The rest of an event keeps the laws. -/
theorem Lawful.settle {u : State} (hu : Lawful u) (s : State) : Lawful (settle s u) := by
  refine settle_keeps (P := Lawful) (fun u p hready hu => hu.performUnlock hready) (fun u r n _ _ hu => ?_)
    (fun u q o l hu => hu.of_same rfl rfl rfl rfl rfl) s hu
  exact ((hu.of_same (u := { u with apply := .idle }) rfl rfl rfl rfl rfl).makeChange r).raise _

end

end Sys2Proof.Machine
end

section
/-! SUPPORT. The laws of the tables over the effects of the commands: the end of a record's work, its opening, and what only
marks or answers. -/

namespace Sys2Proof.Machine

/-! ## A record whose work ends -/

/-- The record `r` of `p` ends: of the other records nothing changes, of the entries only `o`, which is its own or was loose,
and loose ones; and the access, if it was open for it, is closed. -/
structure Ends (s u : State) (p : Pair) (r : TagRecord) (o : Option EntryIx) : Prop where
  live : s.tag p = some r
  tags : ∀ q : Pair, q ≠ p → u.tag q = s.tag q
  entries : ∀ d : EntryIx, o ≠ some d → u.entries[d] = s.entries[d] ∨ Loose s.entries[d] ∧ Loose u.entries[d]
  flags : u.lockLost = s.lockLost
  old : ∀ d ∈ r.entry, o = some d
  own : ∀ d ∈ o, r.entry = some d ∨ Loose s.entries[d]
  access : u.access = s.access ∧ r.position ≠ .issued ∨ u.access = none ∧ ∀ a ∈ s.access, a.live = true ∧ a.pair = p

namespace Ends

variable {s u : State} {p : Pair} {r : TagRecord} {o : Option EntryIx} (hs : Lawful s) (h : Ends s u p r o)
include hs h

theorem bound_own {d : EntryIx} (hd : o = some d) {c : CaptureEntry} (hc : s.entries[d] = some c) :
    c.state.boundTo = some p ∨ c.isStrand = true := by
  obtain hmine | hloose := h.own d hd
  · obtain ⟨x, hx, hbound⟩ := (Option.any_eq_true _ _).1 (hs.2.2.2.2.1 p.initiator p.tag r h.live d hmine).2.2
    obtain rfl := Option.some_inj.1 (hx.symm.trans hc)
    simp only [Bool.and_eq_true, decide_eq_true_eq] at hbound
    exact .inl hbound.1
  · exact .inr (hloose c hc)

/-- An access that is still open is not the record's, and fills no entry that changes. -/
theorem access_other {a : Access} (ha : a ∈ u.access) :
    a ∈ s.access ∧ (a.live = true → a.pair ≠ p) ∧ ∀ e ∈ a.entry, o ≠ some e := by
  obtain ⟨hsame, hposition⟩ | ⟨hclosed, -⟩ := h.access
  · rw [hsame] at ha
    have hother (hlive : a.live = true) : a.pair ≠ p := by
      rintro rfl
      obtain ⟨x, hx, hfits⟩ := (Option.any_eq_true _ _).1 ((hs.2.1.2 a ha).1 hlive)
      obtain rfl := Option.some_inj.1 (hx.symm.trans h.live)
      simp only [Bool.and_eq_true, decide_eq_true_eq] at hfits
      exact hposition hfits.1
    refine ⟨ha, hother, fun e he ho => ?_⟩
    obtain ⟨c, hc, hfills⟩ := (Option.any_eq_true _ _).1 ((hs.2.2.2.2.2.2 a ha).1 e he).2
    simp only [Bool.and_eq_true, decide_eq_true_eq] at hfills
    obtain hbound | hstrand := h.bound_own hs ho hc
    · rw [hfills.2, Access.binds] at hbound
      split at hbound
      · exact hother ‹_› (Option.some_inj.1 hbound)
      · cases hbound
    · rw [(not_bound_of_strand hstrand).2] at hfills
      cases hfills.1
  · rw [hclosed] at ha
    cases ha

theorem accessLaw (hp : ∀ x ∈ u.tag p, x.position ≠ .issued) : AccessLaw u := by
  refine .of_one h.tags hs.2.1 (fun x hx _ hissued => absurd hissued (hp x hx)) fun a ha => ?_
  obtain ⟨hopen, hother, -⟩ := h.access_other hs ha
  refine ⟨fun hlive => ?_, (hs.2.1.2 a hopen).2⟩
  rw [h.tags _ (hother hlive)]
  exact (hs.2.1.2 a hopen).1 hlive

theorem accessBound : AccessBound u := by
  intro a ha
  obtain ⟨hopen, hother, hfill⟩ := h.access_other hs ha
  obtain ⟨hentry, hrecord⟩ := hs.2.2.2.2.2.2 a hopen
  refine ⟨fun e he => ⟨(hentry e he).1, ?_⟩, fun hlive x hx => ?_⟩
  · obtain ⟨c, hc, hmine⟩ := (Option.any_eq_true _ _).1 (hentry e he).2
    obtain hsame | ⟨hloose, -⟩ := h.entries e (hfill e he)
    · rw [hsame, hc]
      exact hmine
    · simp [(not_bound_of_strand (hloose c hc)).2] at hmine
  · rw [h.tags _ (hother hlive)] at hx
    exact hrecord hlive x hx

theorem bindingLaw
    (hrecord : ∀ x ∈ u.tag p, ∀ e ∈ x.entry, x.reads = true ∧ x.position ≠ .waiting ∧
      (u.entries[e]).any (fun c => decide (c.state.boundTo = some p) &&
        (c.isFilling || decide (x.verdict = .none) && decide (x.position = .done) && decide (x.response = .sent))) = true)
    (hentry : ∀ d ∈ o, ∀ c ∈ u.entries[d], c.isFilling = false ∧
      ∀ q ∈ c.state.boundTo, q = p ∧ (u.tag p).any (fun x => decide (x.entry = some d)) = true) : BindingLaw u := by
  refine .of_one h.tags hs.2.2.2.2 h.entries (fun x hx d hd => ?_) (fun d hd c hc q hq => ?_) (fun a ha d hd ho => ?_) hrecord
    (fun d hd c hc => ?_) (h.accessBound hs)
  · obtain rfl := Option.some_inj.1 (h.live.symm.trans hx)
    exact h.old d hd
  · obtain hbound | hstrand := h.bound_own hs hd hc
    · rw [hbound] at hq
      exact (Option.some_inj.1 hq).symm
    · rw [(not_bound_of_strand hstrand).1] at hq
      cases hq
  · obtain ⟨hsame, -⟩ | ⟨-, hmine⟩ := h.access
    · rw [hsame, Option.mem_def.1 ha]
      simpa using hd
    · obtain ⟨hlive, rfl⟩ := hmine a ha
      have hentry' := (hs.2.2.2.2.2.2 a ha).2 hlive r h.live
      exact absurd (h.old d (hentry'.trans hd)) ho
  · obtain ⟨hnot, hbound⟩ := hentry d hd c hc
    exact ⟨hbound, fun hfill => by rw [hnot] at hfill; cases hfill⟩

/-- The record goes, with every reservation's note of it, and its entry. -/
theorem lawful_of_gone (hgone : u.tag p = none) (hslots : FewerSlots s u)
    (hunnamed : ∀ k : SlotIx, ∀ v ∈ u.slots[k], ¬v.Names p)
    (hkeep : ∀ k : SlotIx, ∀ w ∈ s.slots[k], ∀ t : Tag, w.state = .writing t → (⟨w.initiator, t⟩ : Pair) ≠ p →
      ∃ v ∈ u.slots[k], v = w ∨ v = { w with lockRead := none })
    (hfreed : ∀ d ∈ o, Loose u.entries[d]) : Lawful u := by
  have hnone {x : TagRecord} (hx : x ∈ u.tag p) : False := by
    rw [hgone] at hx
    cases hx
  refine ⟨hslots.lockLaw hs.1 fun i hi => (by rwa [h.flags] at hi), h.accessLaw hs fun x hx => (hnone hx).elim,
    .of_one h.tags hs.2.2.1 hslots (fun k v hv hn => absurd ⟨hn.1, .inl hn.2⟩ (hunnamed k v hv))
      (fun k v hv hi hstate => absurd ⟨hi, .inr hstate⟩ (hunnamed k v hv)),
    .of_one h.tags hs.2.2.2.1 hkeep fun x hx => (hnone hx).elim,
    h.bindingLaw hs (fun x hx => (hnone hx).elim) fun d hd c hc => ?_⟩
  obtain ⟨hunbound, hnot⟩ := not_bound_of_strand (hfreed d hd c hc)
  rw [hunbound]
  exact ⟨hnot, fun q hq => (by cases hq)⟩

/-- The record, which is no LOCK-WRITE, is DONE; its entry is freed, or CAPTURED for it while it is uncommitted. -/
theorem lawful_of_done {x : TagRecord} (hdone : u.tag p = some x) (hkind : x.kind = r.kind) (hnotWrite : r.kind ≠ .lockWrite)
    (hposition : x.position = .done) (hslots : u.slots = s.slots)
    (hentry : x.entry = none ∧ (∀ d ∈ o, Loose u.entries[d]) ∨
      x.verdict = .none ∧ x.response = .sent ∧ x.reads = true ∧ ∃ e c, x.entry = some e ∧ o = some e ∧
        u.entries[e] = some c ∧ c.state = .captured p) : Lawful u := by
  have hsame {y : TagRecord} (hy : y ∈ u.tag p) : x = y := Option.some_inj.1 (hdone.symm.trans hy)
  have hfewer : FewerSlots s u := .of_same hslots
  refine ⟨hfewer.lockLaw hs.1 fun i hi => (by rwa [h.flags] at hi),
    h.accessLaw hs fun y hy => (by rw [← hsame hy, hposition]; exact Position.noConfusion),
    .of_one h.tags hs.2.2.1 hfewer (fun k v hv hn => ?_) (fun k v hv hi hstate => ?_),
    .of_one h.tags hs.2.2.2.1 (fun k w hw _ _ _ => ⟨w, by rwa [hslots], .inl rfl⟩)
      fun y hy hlockWrite => absurd ((hsame hy ▸ hkind).symm.trans hlockWrite) hnotWrite,
    h.bindingLaw hs (fun y hy e he => ?_) fun d hd c hc => ?_⟩
  · rw [hslots] at hv
    have hread := (hs.2.2.1 k v hv).1 p.tag hn.2
    rw [hn.1, h.live] at hread
    rw [hdone]
    simpa [hkind] using hread
  · rw [hslots] at hv
    have hwrite := (hs.2.2.1 k v hv).2 p.tag (by rw [hstate]; rfl)
    rw [hi, h.live] at hwrite
    simp [hnotWrite] at hwrite
  · obtain rfl := hsame hy
    obtain ⟨hnone, -⟩ | ⟨hverdict, hsent, hreads, d, c, hd, -, hc, hstate⟩ := hentry
    · rw [hnone] at he
      cases he
    · obtain rfl := Option.some_inj.1 (hd.symm.trans he)
      refine ⟨hreads, by rw [hposition]; exact Position.noConfusion, ?_⟩
      rw [hc]
      simp [hstate, EntryState.boundTo, hverdict, hposition, hsent]
  · obtain ⟨-, hfreed⟩ | ⟨-, -, -, e, x', he, ho, hx', hstate⟩ := hentry
    · obtain ⟨hunbound, hnot⟩ := not_bound_of_strand (hfreed d hd c hc)
      rw [hunbound]
      exact ⟨hnot, fun q hq => (by cases hq)⟩
    · obtain rfl := Option.some_inj.1 (ho.symm.trans hd)
      obtain rfl := Option.some_inj.1 (hx'.symm.trans hc)
      refine ⟨by simp [CaptureEntry.isFilling, hstate], fun q hq => ?_⟩
      rw [hstate] at hq
      refine ⟨(Option.some_inj.1 hq).symm, ?_⟩
      rw [hdone]
      simpa using he

end Ends

/-! ## The release of a record (R35) -/

section
variable {s x : State} {p : Pair} {r : TagRecord}

/-- The note of a LOCK-READ that is released is cleared, and nothing else of the lock table changes (R133). -/
theorem slots_clearLockRead (hlaw : LockLaw x) :
    FewerSlots x (clearLockRead p x) ∧ (∀ k : SlotIx, ∀ v ∈ (clearLockRead p x).slots[k], ¬v.NamesLockRead p) ∧
      ∀ k : SlotIx, ∀ w ∈ x.slots[k], ∃ v ∈ (clearLockRead p x).slots[k], v = w ∨ v = { w with lockRead := none } := by
  by_cases hnamed : ∃ (k : SlotIx) (v : Reservation), x.slots[k] = some v ∧ v.NamesLockRead p
  · obtain ⟨k, v, hslot, hnames⟩ := hnamed
    rw [clearLockRead_of_named hlaw hslot hnames]
    have hslots (l : SlotIx) : (x.setSlot k (some { v with lockRead := none })).slots[l] =
        if l = k then some { v with lockRead := none } else x.slots[l] := State.slots_setSlot ..
    refine ⟨fun l w hw => ?_, fun l w hw hn => ?_, fun l w hw => ?_⟩
    · rw [hslots] at hw
      split at hw
      · rename_i he
        subst he
        exact ⟨v, hslot, .inr (Option.some_inj.1 hw).symm⟩
      · exact ⟨w, hw, .inl rfl⟩
    · rw [hslots] at hw
      split at hw
      · obtain rfl := Option.some_inj.1 hw
        cases hn.2
      · rename_i hne
        exact (hlaw.1 l k hne w hw v hslot).1 (hn.1.trans hnames.1.symm)
    · rw [hslots]
      split
      · rename_i he
        subst he
        exact ⟨_, rfl, .inr (by rw [Option.some_inj.1 (hw.symm.trans hslot)])⟩
      · exact ⟨w, hw, .inl rfl⟩
  · push Not at hnamed
    have hunnamed : ∀ k : SlotIx, ∀ v ∈ x.slots[k], ¬v.NamesLockRead p := fun k v hv => hnamed k v hv
    rw [clearLockRead_of_unnamed hunnamed]
    exact ⟨.of_same rfl, hunnamed, fun k w hw => ⟨w, hw, .inl rfl⟩⟩

theorem entries_releaseRecord (d : EntryIx) :
    (releaseRecord p r x).entries[d] = if r.entry = some d then none else x.entries[d] := by
  obtain ⟨_, h⟩ := clearLockRead_only p (freeEntryOf r (x.setTag p none))
  rw [releaseRecord, h]
  change (freeEntryOf r (x.setTag p none)).entries[d] = _
  unfold freeEntryOf
  cases hentry : r.entry with
  | none => rfl
  | some e =>
    simp only [Option.some.injEq]
    rw [State.entries_setEntry]
    simp only [eq_comm]
    rfl

theorem access_releaseRecord : (releaseRecord p r x).access = x.access := by
  obtain ⟨_, _, _, h⟩ := releaseRecord_only p r x
  rw [h]

theorem lockLost_releaseRecord : (releaseRecord p r x).lockLost = x.lockLost := by
  obtain ⟨_, _, _, h⟩ := releaseRecord_only p r x
  rw [h]

/-- The release of a record, which is no LOCK-WRITE that a reservation names, after what else its end does to loose entries,
the access and the responses. -/
theorem Lawful.releaseRecord (hs : Lawful s) (hr : s.tag p = some r) (htags : ∀ q : Pair, q ≠ p → x.tag q = s.tag q)
    (hslots : x.slots = s.slots) (hflags : x.lockLost = s.lockLost)
    (hentries : ∀ d : EntryIx, r.entry ≠ some d → x.entries[d] = s.entries[d] ∨ Loose s.entries[d] ∧ Loose x.entries[d])
    (haccess : x.access = s.access ∧ r.position ≠ .issued ∨ x.access = none ∧ ∀ a ∈ s.access, a.live = true ∧ a.pair = p)
    (hwrite : r.kind = .lockWrite → r.position = .done) {w : TagRecord} (hw : w.entry = r.entry) :
    Lawful (releaseRecord p w x) := by
  have hlaw : LockLaw (freeEntryOf w (x.setTag p none)) := by
    obtain ⟨_, h⟩ := freeEntryOf_only w (x.setTag p none)
    exact hs.1.of_same (by rw [h]; exact hslots) (by rw [h]; exact hflags)
  have hbefore : (freeEntryOf w (x.setTag p none)).slots = s.slots := by
    obtain ⟨_, h⟩ := freeEntryOf_only w (x.setTag p none)
    rw [h]
    exact hslots
  obtain ⟨hfewer, hunread, hkeep⟩ := slots_clearLockRead (p := p) hlaw
  rw [FewerSlots] at hfewer
  simp only [hbefore] at hfewer hkeep
  have hends : Ends s (Machine.releaseRecord p w x) p r r.entry :=
    { live := hr
      tags := fun q hq => by rw [tag_releaseRecord, if_neg hq, htags q hq]
      entries := fun d hd => by
        rw [entries_releaseRecord, hw, if_neg hd]
        exact hentries d hd
      flags := lockLost_releaseRecord.trans hflags
      old := fun d hd => hd
      own := fun d hd => .inl hd
      access := by rwa [access_releaseRecord] }
  refine hends.lawful_of_gone hs (by rw [tag_releaseRecord, if_pos rfl]) hfewer (fun k v hv hn => ?_)
    (fun k v hv _ _ _ => hkeep k v hv) fun d hd c hc => ?_
  · obtain ⟨hi, hread | hstate⟩ := hn
    · exact hunread k v hv ⟨hi, hread⟩
    · obtain ⟨y, hy, hyv⟩ := hfewer k v hv
      have hsame : y.initiator = v.initiator ∧ y.state = v.state := by obtain rfl | rfl := hyv <;> exact ⟨rfl, rfl⟩
      have hnamed := (hs.2.2.1 k y hy).2 p.tag (by rw [hsame.2, hstate]; rfl)
      rw [hsame.1, hi, hr] at hnamed
      simp only [Option.any_some, Bool.and_eq_true, decide_eq_true_eq, Bool.not_eq_true', decide_eq_false_iff_not] at hnamed
      exact hnamed.2 (hwrite hnamed.1)
  · rw [entries_releaseRecord, hw, if_pos (Option.mem_def.1 hd)] at hc
    cases hc

end

/-! ## A record that stays what it is -/

/-- The record `r` of `p` becomes `w`, which has another verdict, response, mark or timer: an entry of it that is not FILLING
keeps it uncommitted and SENT, and it stays COMMITTED if it was. Nothing else changes. -/
structure Remade (s u : State) (p : Pair) (r w : TagRecord) : Prop where
  live : s.tag p = some r
  now : u.tag p = some w
  tags : ∀ q : Pair, q ≠ p → u.tag q = s.tag q
  kind : w.kind = r.kind
  place : w.place = r.place
  position : w.position = r.position
  entry : w.entry = r.entry
  verdict : r.verdict = .committed → w.verdict = .committed
  bound : w.verdict = r.verdict ∧ w.response = r.response ∨ ∀ e ∈ r.entry, (s.entries[e]).any CaptureEntry.isFilling = true
  slots : u.slots = s.slots
  flags : u.lockLost = s.lockLost
  access : u.access = s.access
  entries : u.entries = s.entries

namespace Remade

variable {s u : State} {p : Pair} {r w : TagRecord} (hs : Lawful s) (h : Remade s u p r w)

section
include h

theorem reads : w.reads = r.reads := by simp only [TagRecord.reads, h.kind]

theorem writes : w.writes = r.writes := by simp only [TagRecord.writes, h.kind]

theorem fits (k : AccessKind) : fits k w = Machine.fits k r := by
  cases k
  · exact h.reads
  · exact h.writes

theorem eq_now {x : TagRecord} (hx : x ∈ u.tag p) : w = x := Option.some_inj.1 (h.now.symm.trans hx)

/-- What the record passes on holds of each record that it held of. -/
theorem any (q : Pair) {f : TagRecord → Bool} (hf : f r = true → f w = true) (hq : (s.tag q).any f = true) :
    (u.tag q).any f = true := by
  by_cases hp : q = p
  · subst hp
    rw [h.live] at hq
    rw [h.now]
    exact hf hq
  · rwa [h.tags q hp]

end

include hs h

theorem accessLaw : AccessLaw u := by
  obtain ⟨-, haccess, -⟩ := hs
  refine .of_one h.tags haccess (fun x hx hwrites hissued => ?_) fun a ha => ?_
  · obtain rfl := h.eq_now hx
    exact h.verdict (haccess.1 p.initiator p.tag r h.live (h.writes ▸ hwrites) (h.position ▸ hissued))
  · rw [h.access] at ha
    obtain ⟨hlive, hrest⟩ := haccess.2 a ha
    exact ⟨fun hopen => h.any _ (by rw [h.position, h.fits]; exact id) (hlive hopen), hrest⟩

theorem namesLaw : NamesLaw u := by
  obtain ⟨-, -, hnames, -⟩ := hs
  refine .of_one h.tags hnames (.of_same h.slots) (fun k v hv hn => ?_) fun k v hv hi hstate => ?_
  · rw [h.slots] at hv
    have hread := (hnames k v hv).1 p.tag hn.2
    rw [hn.1] at hread
    exact h.any p (by rw [h.kind]; exact id) hread
  · rw [h.slots] at hv
    have hwrite := (hnames k v hv).2 p.tag (by rw [hstate]; rfl)
    rw [hi] at hwrite
    exact h.any p (by rw [h.kind, h.position]; exact id) hwrite

theorem writingLaw : WritingLaw u := by
  obtain ⟨-, -, -, hwriting, -⟩ := hs
  refine .of_one h.tags hwriting (fun k v hv _ _ _ => ⟨v, by rwa [h.slots], .inl rfl⟩) fun x hx hkind hposition => ?_
  obtain rfl := h.eq_now hx
  obtain ⟨k, v, hv, hrest⟩ := hwriting p.initiator p.tag r h.live (h.kind ▸ hkind) (h.position ▸ hposition)
  exact ⟨k, v, by rwa [h.slots], by rwa [h.place]⟩

/-- The record's entry is bound to it, and it is the one that may have one. -/
theorem bound_own {d : EntryIx} (hd : r.entry = some d) {c : CaptureEntry} (hc : s.entries[d] = some c) :
    c.state.boundTo = some p ∧
      (c.isFilling || decide (w.verdict = .none) && decide (w.position = .done) && decide (w.response = .sent)) = true := by
  obtain ⟨x, hx, hmine⟩ := (Option.any_eq_true _ _).1 (hs.2.2.2.2.1 p.initiator p.tag r h.live d hd).2.2
  obtain rfl := Option.some_inj.1 (hx.symm.trans hc)
  obtain ⟨hbound, hform⟩ := Bool.and_eq_true_iff.1 hmine
  refine ⟨of_decide_eq_true hbound, ?_⟩
  obtain ⟨hverdict, hresponse⟩ | hfilling := h.bound
  · rw [hverdict, hresponse, h.position]
    exact hform
  · have hfill := hfilling d hd
    rw [hc, Option.any_some] at hfill
    simp [hfill]

theorem accessBound : AccessBound u := by
  obtain ⟨-, -, -, -, -, -, hopen⟩ := hs
  intro a ha
  rw [h.access] at ha
  obtain ⟨hown, hrecord⟩ := hopen a ha
  refine ⟨fun e he => ?_, fun hlive x hx => ?_⟩
  · simp only [h.entries]
    exact hown e he
  · by_cases hq : a.pair = p
    · rw [hq] at hx
      obtain rfl := h.eq_now hx
      rw [h.entry]
      exact hrecord hlive r (by rw [hq]; exact h.live)
    · rw [h.tags _ hq] at hx
      exact hrecord hlive x hx

theorem bindingLaw : BindingLaw u := by
  have hopen := accessBound hs h
  have hown {d : EntryIx} (hd : r.entry = some d) {c : CaptureEntry} (hc : s.entries[d] = some c) := bound_own hs h hd hc
  obtain ⟨-, -, -, -, hbinding⟩ := hs
  obtain ⟨hrecords, hbound, -⟩ := id hbinding
  refine .of_one (o := r.entry) h.tags hbinding (fun d _ => .inl (by simp only [h.entries])) (fun x hx d hd => ?_)
    (fun d hd c hc q hq => ?_) (fun a ha d hd _ => ?_) (fun x hx e he => ?_) (fun d hd c hc => ?_) hopen
  · obtain rfl := Option.some_inj.1 (h.live.symm.trans hx)
    exact hd
  · exact (Option.some_inj.1 ((hown hd hc).1.symm.trans hq)).symm
  · rw [h.access, Option.mem_def.1 ha]
    simpa using hd
  · obtain rfl := h.eq_now hx
    rw [h.entry] at he
    obtain ⟨hreads, hpast, hmine⟩ := hrecords p.initiator p.tag r h.live e he
    obtain ⟨c, hc, -⟩ := (Option.any_eq_true _ _).1 hmine
    obtain ⟨howner, hform⟩ := hown he hc
    refine ⟨h.reads.trans hreads, by rwa [h.position], ?_⟩
    simp only [h.entries, hc, Option.any_some, howner, decide_true, Bool.true_and]
    exact hform
  · simp only [h.entries] at hc
    obtain ⟨howner, hfilling⟩ := hbound d c hc
    refine ⟨fun q hq => ?_, fun hfill => by rw [h.access]; exact hfilling hfill⟩
    obtain rfl := Option.some_inj.1 ((hown hd hc).1.symm.trans hq)
    exact ⟨rfl, h.any _ (by rw [h.entry]; exact id) (howner _ hq)⟩

theorem lawful : Lawful u :=
  ⟨hs.1.of_same h.slots h.flags, accessLaw hs h, namesLaw hs h, writingLaw hs h, bindingLaw hs h⟩

end Remade

end Sys2Proof.Machine
end

section
/-! SUPPORT. The laws of the tables over the grant of a record and the ends of beats. -/

namespace Sys2Proof.Machine

/-! ## The access alone (R150, R152) -/

section
variable {s u : State}

/-- The open access counts on, and the entry that it fills gains beats. -/
theorem Lawful.of_access (hs : Lawful s) {a b : Access} (ha : s.access = some a) (hb : u.access = some b)
    (hpair : b.pair = a.pair) (hlive : b.live = a.live) (hkind : b.kind = a.kind) (hentry : b.entry = a.entry)
    (hfirst : b.first = a.first) (htags : u.tags = s.tags) (hslots : u.slots = s.slots) (hflags : u.lockLost = s.lockLost)
    (hentries : ∀ d : EntryIx, (u.entries[d]).map (·.state) = (s.entries[d]).map (·.state)) : Lawful u := by
  obtain ⟨hlock, haccess, hnames, hwriting, hrecords, hentriesBound, hopen⟩ := hs
  have htag (q : Pair) : u.tag q = s.tag q := State.tag_congr htags q
  have hback {d : EntryIx} {c : CaptureEntry} (hc : u.entries[d] = some c) :
      ∃ c', s.entries[d] = some c' ∧ c'.state = c.state := by
    have hmap := hentries d
    rw [hc] at hmap
    exact Option.map_eq_some_iff.1 hmap.symm
  have hany (d : EntryIx) {f : CaptureEntry → Bool} (hf : ∀ c c', c.state = c'.state → f c = f c')
      (h : (s.entries[d]).any f = true) : (u.entries[d]).any f = true := by
    obtain ⟨c, hc, hfc⟩ := (Option.any_eq_true _ _).1 h
    have hmap := hentries d
    rw [hc] at hmap
    obtain ⟨c', hc', hstate⟩ := Option.map_eq_some_iff.1 hmap
    rw [hc']
    exact (hf c' c hstate).trans hfc
  have hbinds : b.binds = a.binds := by rw [Access.binds, Access.binds, hlive, hpair]
  have hmine {f : Access → Bool} (hf : f a = f b) : u.access.any f = s.access.any f := by
    rw [ha, hb]
    exact hf.symm
  refine ⟨hlock.of_same hslots hflags, ⟨fun i t r hr => haccess.1 i t r (by rwa [htag] at hr), fun x hx => ?_⟩,
    by simpa only [NamesLaw, htag, hslots] using hnames, by simpa only [WritingLaw, htag, hslots] using hwriting,
    fun i t r hr e he => ?_, fun e c hc => ?_, fun x hx => ?_⟩
  · obtain rfl := Option.some_inj.1 (hb.symm.trans hx)
    rw [htag, hpair, hlive, hkind, hentry, hfirst]
    exact haccess.2 a ha
  · obtain ⟨hreads, hposition, hbound⟩ := hrecords i t r (by rwa [htag] at hr) e he
    refine ⟨hreads, hposition, ?_⟩
    exact hany e (fun c c' h => by simp only [CaptureEntry.isFilling, h]) hbound
  · obtain ⟨c', hc', hstate⟩ := hback hc
    obtain ⟨hbound, hfilling⟩ := hentriesBound e c' hc'
    have hfills : c'.isFilling = c.isFilling := by simp only [CaptureEntry.isFilling, hstate]
    refine ⟨fun p hp => ?_, fun hfill => ?_⟩
    · rw [htag]
      exact hbound p (hstate ▸ hp)
    · rw [hmine (by rw [hentry])]
      exact hfilling (hfills.trans hfill)
  · obtain rfl := Option.some_inj.1 (hb.symm.trans hx)
    obtain ⟨hown, hrecord⟩ := hopen a ha
    refine ⟨fun e he => ?_, fun hl r hr => ?_⟩
    · obtain ⟨hread, hbound⟩ := hown e (hentry ▸ he)
      refine ⟨hkind.trans hread, ?_⟩
      rw [hbinds]
      exact hany e (fun c c' h => by simp only [CaptureEntry.isFilling, h]) hbound
    · rw [hentry]
      rw [htag, hpair] at hr
      exact hrecord (hlive ▸ hl) r hr

/-- A read whose record has been removed ends, and its unbound entry becomes a strand or FREE (R79). -/
theorem Lawful.of_removed_end (hs : Lawful s) {a : Access} (ha : s.access = some a) (hlive : a.live = false)
    (htags : u.tags = s.tags) (hslots : u.slots = s.slots) (hflags : u.lockLost = s.lockLost) (hclosed : u.access = none)
    (hentries : ∀ d : EntryIx, if a.entry = some d then Loose u.entries[d] else u.entries[d] = s.entries[d]) : Lawful u := by
  obtain ⟨hlock, haccess, hnames, hwriting, hrecords, hentriesBound, hopen⟩ := hs
  have htag (q : Pair) : u.tag q = s.tag q := State.tag_congr htags q
  refine ⟨hlock.of_same hslots hflags, ⟨fun i t r hr => haccess.1 i t r (by rwa [htag] at hr),
      fun x hx => (by rw [hclosed] at hx; cases hx)⟩,
    by simpa only [NamesLaw, htag, hslots] using hnames, by simpa only [WritingLaw, htag, hslots] using hwriting,
    fun i t r hr e he => ?_, fun e c hc => ?_, fun x hx => (by rw [hclosed] at hx; cases hx)⟩
  · obtain ⟨hreads, hposition, hbound⟩ := hrecords i t r (by rwa [htag] at hr) e he
    refine ⟨hreads, hposition, ?_⟩
    have hother : a.entry ≠ some e := by
      intro hmine
      obtain ⟨c, hc, hfill⟩ := (Option.any_eq_true _ _).1 ((hopen a ha).1 e hmine).2
      rw [hc] at hbound
      simp only [Option.any_some, Bool.and_eq_true, decide_eq_true_eq, Access.binds, hlive] at hbound hfill
      rw [hbound.1] at hfill
      simp at hfill
    have hsame := hentries e
    rw [if_neg hother] at hsame
    rw [hsame]
    exact hbound
  · have hform := hentries e
    split at hform
    · obtain ⟨hunbound, hnot⟩ := not_bound_of_strand (hform c hc)
      rw [hunbound, hnot]
      exact ⟨fun q hq => (by cases hq), fun hfill => (by cases hfill)⟩
    · rename_i hother
      rw [hform] at hc
      obtain ⟨hbound, hfilling⟩ := hentriesBound e c hc
      refine ⟨fun q hq => by rw [htag]; exact hbound q hq, fun hfill => ?_⟩
      obtain ⟨x, hx, hmine⟩ := (Option.any_eq_true _ _).1 (hfilling hfill)
      obtain rfl := Option.some_inj.1 (hx.symm.trans ha)
      exact absurd (of_decide_eq_true hmine) hother

end

/-! ## The ends of beats -/

section
variable {s x : State} {a b : Access} {r : TagRecord}

/-- A live access has a live record that fits it. -/
theorem Lawful.record_of_live (hs : Lawful s) (ha : s.access = some a) (hlive : a.live = true) :
    ∃ r, s.tag a.pair = some r ∧ r.position = .issued ∧ fits a.kind r = true ∧ r.entry = a.entry := by
  obtain ⟨r, hr, hfits⟩ := (Option.any_eq_true _ _).1 ((hs.2.1.2 a ha).1 hlive)
  simp only [Bool.and_eq_true, decide_eq_true_eq] at hfits
  exact ⟨r, hr, hfits.1, hfits.2, (hs.2.2.2.2.2.2 a ha).2 hlive r hr⟩

/-- The end of a live read, its last beat having joined its entry or buffer or having failed. -/
theorem Lawful.endRead (hs : Lawful s) (ha : s.access = some a) (hlive : a.live = true) (hkind : a.kind = .read)
    (hpair : b.pair = a.pair) (hentry : b.entry = a.entry) (htags : x.tags = s.tags) (hslots : x.slots = s.slots)
    (hflags : x.lockLost = s.lockLost) (hclosed : x.access = none)
    (hentries : ∀ d : EntryIx, a.entry ≠ some d → x.entries[d] = s.entries[d])
    (hheld : ∀ d ∈ a.entry, (x.entries[d]).isSome = true) (failure : Option Status) : Lawful (endRead b failure x) := by
  obtain ⟨r, hr, hissued, hfits, hown⟩ := hs.record_of_live ha hlive
  rw [hkind] at hfits
  have hreads : r.reads = true := hfits
  have hnotWrite : r.kind ≠ .lockWrite := fun h => by simp [TagRecord.reads, h] at hreads
  have htag (q : Pair) : x.tag q = s.tag q := State.tag_congr htags q
  have hx : x.tag b.pair = some r := by rw [htag, hpair, hr]
  have haccess : ∀ c ∈ s.access, c.live = true ∧ c.pair = a.pair := by
    intro c hc
    obtain rfl := Option.some_inj.1 (ha.symm.trans hc)
    exact ⟨hlive, rfl⟩
  have hends {u : State} (hutags : ∀ q, q ≠ a.pair → u.tag q = x.tag q) (huflags : u.lockLost = x.lockLost)
      (huaccess : u.access = x.access) (huentries : ∀ d : EntryIx, a.entry ≠ some d → u.entries[d] = x.entries[d]) :
      Ends s u a.pair r a.entry :=
    { live := hr
      tags := fun q hq => (hutags q hq).trans (htag q)
      entries := fun d hd => .inl ((huentries d hd).trans (hentries d hd))
      flags := huflags.trans hflags
      old := fun d hd => hown ▸ hd
      own := fun d hd => .inl (hown.trans hd)
      access := .inr ⟨huaccess.trans hclosed, haccess⟩ }
  have hreleased (y : Response) : Lawful (Machine.releaseRecord a.pair r (x.respond y)) :=
    hs.releaseRecord (x := x.respond y) hr (fun q _ => htag q) hslots hflags (fun d hd => .inl (hentries d (hown ▸ hd)))
      (.inr ⟨hclosed, haccess⟩) (fun h => absurd h hnotWrite) rfl
  cases hmine : a.entry with
  | none =>
    rw [endRead_of_no_entry hx (hentry.trans hmine), hpair]
    split
    · exact hreleased _
    · refine Ends.lawful_of_done hs (hends (fun q hq => State.tag_setTag_of_ne _ hq _) rfl rfl fun d _ => rfl)
        (State.tag_setTag_self ..) rfl hnotWrite rfl hslots (.inl ⟨hown.trans hmine, fun d hd => ?_⟩)
      rw [hmine] at hd
      cases hd
  | some e =>
    obtain ⟨c, hc⟩ := Option.isSome_iff_exists.1 (hheld e hmine)
    have hbe := hentry.trans hmine
    cases hverdict : r.verdict with
    | committed =>
      rw [endRead_of_committed hx hbe hc hverdict, hpair]
      exact hreleased _
    | none =>
      by_cases hbeats : c.beats = []
      · rw [endRead_of_uncommitted_of_empty hx hbe hc hverdict hbeats, hpair]
        refine Ends.lawful_of_done hs (hends (fun q hq => State.tag_setTag_of_ne _ hq _) rfl rfl fun d hd => ?_)
          (State.tag_setTag_self ..) rfl hnotWrite rfl hslots (.inl ⟨rfl, fun d hd => ?_⟩)
        · rw [State.entries_setEntry, if_neg fun he => hd (hmine.trans (congrArg some he.symm))]
          rfl
        · obtain rfl := Option.some_inj.1 (hmine.symm.trans hd)
          rw [State.entries_setEntry_self]
          exact fun c hc => (by cases hc)
      · rw [endRead_of_uncommitted_of_held hx hbe hc hverdict hbeats, hpair]
        refine Ends.lawful_of_done hs (hends (fun q hq => State.tag_setTag_of_ne _ hq _) rfl rfl fun d hd => ?_)
          (State.tag_setTag_self ..) rfl hnotWrite rfl hslots
          (.inr ⟨hverdict, rfl, hreads, e, _, hown.trans hmine, hmine, State.entries_setEntry_self .., rfl⟩)
        rw [State.entries_setEntry, if_neg fun he => hd (hmine.trans (congrArg some he.symm))]
        rfl

/-- A LOCK-WRITE goes, and the reservation that names it with it. -/
theorem Ends.lawful_of_lockWrite {u : State} {p : Pair} (h : Ends s u p r none) (hs : Lawful s) (hgone : u.tag p = none)
    {k : SlotIx} {v : Reservation} (hslot : s.slots[k] = some v) (hinitiator : v.initiator = p.initiator)
    (hstate : v.state = .writing p.tag) (hslots : ∀ l : SlotIx, u.slots[l] = if l = k then none else s.slots[l]) :
    Lawful u := by
  have hleft {l : SlotIx} {w : Reservation} (hw : w ∈ u.slots[l]) : l ≠ k ∧ w ∈ s.slots[l] := by
    rw [hslots] at hw
    split at hw
    · cases hw
    · exact ⟨‹_›, hw⟩
  refine Ends.lawful_of_gone hs h hgone (fun l w hw => ⟨w, (hleft hw).2, .inl rfl⟩) (fun l w hw hn => ?_)
    (fun l w hw t ht hne => ⟨w, ?_, .inl rfl⟩) fun d hd => (by cases hd)
  · obtain ⟨hl, hw⟩ := hleft hw
    exact (hs.1.1 l k hl w hw v hslot).1 (hn.1.trans hinitiator.symm)
  · rw [hslots, if_neg]
    · exact hw
    · rintro rfl
      obtain rfl := Option.some_inj.1 (hslot.symm.trans hw)
      rw [hstate] at ht
      exact hne (by rw [hinitiator, ← LockState.writing.inj ht])

/-- The end of a write, which frees the reservation of a LOCK-WRITE (R119, R138). -/
theorem Lawful.endWrite (hs : Lawful s) (ha : s.access = some a) (hkind : a.kind = .write) (status : Status) :
    Lawful (endWrite a status (s.setAccess none)) := by
  have hlive : a.live = true := (hs.2.1.2 a ha).2.1 hkind
  obtain ⟨r, hr, hissued, hfits, hown⟩ := hs.record_of_live ha hlive
  rw [hkind] at hfits
  have hwrites : r.writes = true := hfits
  have hverdict := AccessLaw.committed_of_write hs.2.1 ha hlive hkind hr
  have hbare := BindingLaw.entry_eq_none_of_write hs.2.2.2.2 ha hlive hkind hr
  have hidle : (s.setAccess none).tag a.pair = some r := hr
  have hends {u : State} (hutags : ∀ q, q ≠ a.pair → u.tag q = s.tag q) (huflags : u.lockLost = s.lockLost)
      (huaccess : u.access = none) (huentries : u.entries = s.entries) : Ends s u a.pair r none :=
    { live := hr
      tags := hutags
      entries := fun d _ => .inl (by simp only [huentries])
      flags := huflags
      old := fun d hd => by rw [hbare] at hd; cases hd
      own := fun d hd => by cases hd
      access := .inr ⟨huaccess, fun c hc => by
        obtain rfl := Option.some_inj.1 (ha.symm.trans hc)
        exact ⟨hlive, rfl⟩⟩ }
  have hnotRead : r.kind ≠ .lockRead := fun h => by simp [TagRecord.writes, h] at hwrites
  have hunread := NamesLaw.unnamed hs.2.2.1 hr hnotRead
  by_cases hlockWrite : r.kind = .lockWrite
  · obtain ⟨k, v, hslot, hinitiator, hstate, -⟩ := hs.2.2.2.1 a.pair.initiator a.pair.tag r hr hlockWrite (by simp [hissued])
    have hgone : Lawful (((s.setAccess none).setTag a.pair none).setSlot k none) :=
      Ends.lawful_of_lockWrite (u := ((s.setAccess none).setTag a.pair none).setSlot k none)
        (hends (fun q hq => State.tag_setTag_of_ne _ hq _) rfl rfl rfl) hs (State.tag_setTag_self ..) hslot
        hinitiator hstate fun l => State.slots_setSlot ..
    rw [endWrite_of_lockWrite hidle hverdict hbare hs.2.2.1 hlockWrite hs.1 hslot hinitiator hstate]
    split
    · exact hgone.respond _
    · exact hgone
  · have hwrite : r.kind = .write := by
      revert hwrites hlockWrite
      cases hk : r.kind <;> simp [TagRecord.writes, hk]
    have hunnamed : ∀ k : SlotIx, ∀ v ∈ s.slots[k], ¬v.Names a.pair :=
      unnamed_of hs hr (fun h => absurd h hlockWrite) hunread
    rw [endWrite_of_write hidle hverdict hbare hs.2.2.1 hwrite]
    exact Ends.lawful_of_gone hs (hends (fun q hq => State.tag_setTag_of_ne _ hq _) rfl rfl rfl) (State.tag_setTag_self ..)
      (.of_same rfl) hunnamed (fun l w hw _ _ _ => ⟨w, hw, .inl rfl⟩) fun d hd => (by cases hd)

theorem loose_strandEntry (e : EntryIx) (t : State) (h : (t.entries[e]).isSome = true) (d : EntryIx) :
    if d = e then Loose (strandEntry e t).entries[d] else (strandEntry e t).entries[d] = t.entries[d] := by
  obtain ⟨c, hc⟩ := Option.isSome_iff_exists.1 h
  have hentries : (strandEntry e t).entries[d] = if d = e then some (c.stranded t.strandCounter) else t.entries[d] := by
    rw [strandEntry_of_held hc]
    exact State.entries_setEntry ..
  split
  · rename_i hd
    rw [hentries, if_pos hd]
    exact fun c hc => Option.some_inj.1 hc ▸ rfl
  · rename_i hd
    rw [hentries, if_neg hd]

theorem loose_endUnbound (e : EntryIx) (t : State) (d : EntryIx) :
    if d = e then Loose (endUnbound e t).entries[d] else (endUnbound e t).entries[d] = t.entries[d] := by
  unfold endUnbound
  cases hc : t.entries[e] with
  | none =>
    simp only
    split
    · rename_i hd
      rw [hd, hc]
      exact fun c hc => (by cases hc)
    · trivial
  | some c =>
    simp only
    by_cases hbeats : c.beats = []
    · rw [if_pos hbeats]
      split
      · rename_i hd
        rw [hd, State.entries_setEntry_self]
        exact fun c hc => (by cases hc)
      · rename_i hd
        rw [State.entries_setEntry, if_neg hd]
    · rw [if_neg hbeats]
      exact loose_strandEntry e t (by rw [hc]; rfl) d

theorem entries_appendBeat_of_ne {e d : EntryIx} (v : Word) (t : State) (h : d ≠ e) :
    (appendBeat e v t).entries[d] = t.entries[d] := by
  unfold appendBeat
  split
  · rfl
  · rw [State.entries_setEntry, if_neg h]

theorem tables_appendBeat (e : EntryIx) (v : Word) (t : State) : (appendBeat e v t).tags = t.tags ∧
    (appendBeat e v t).slots = t.slots ∧ (appendBeat e v t).lockLost = t.lockLost ∧ (appendBeat e v t).access = t.access := by
  obtain ⟨_, h⟩ := appendBeat_only e v t
  rw [h]
  exact ⟨rfl, rfl, rfl, rfl⟩

theorem state_appendBeat (e d : EntryIx) (v : Word) (t : State) :
    ((appendBeat e v t).entries[d]).map (·.state) = (t.entries[d]).map (·.state) := by
  unfold appendBeat
  cases hc : t.entries[e] with
  | none => rfl
  | some c =>
    simp only
    rw [State.entries_setEntry]
    split
    · rename_i hd
      rw [hd, hc]
      rfl
    · rfl

/-- The beat of a read whose record has been removed ends its access (R79, R156). -/
theorem Lawful.endRemoved (hs : Lawful s) (ha : s.access = some a) (hlive : a.live = false) (value : Option Word) :
    Lawful (endRemoved a value (s.setAccess none)) := by
  have honly := endRemoved_only a value (s.setAccess none)
  obtain ⟨es, n, h⟩ := honly
  refine hs.of_removed_end ha hlive (by rw [h]; rfl) (by rw [h]; rfl) (by rw [h]; rfl) (by rw [h]; rfl) fun d => ?_
  clear h
  unfold Machine.endRemoved
  cases hentry : a.entry with
  | none => rfl
  | some e =>
    simp only [Option.some.injEq, eq_comm (a := e)]
    cases value with
    | none => exact loose_endUnbound e (s.setAccess none) d
    | some v =>
      have hform := loose_endUnbound e (appendBeat e v (s.setAccess none)) d
      split at hform
      · rename_i hd
        rw [if_pos hd]
        exact hform
      · rename_i hd
        rw [if_neg hd]
        exact hform.trans (entries_appendBeat_of_ne v _ hd)

/-- The entry that an access fills is not FREE (R73). -/
theorem Lawful.held_of_access (hs : Lawful s) (ha : s.access = some a) : ∀ d ∈ a.entry, (s.entries[d]).isSome = true := by
  intro d hd
  obtain ⟨c, hc, -⟩ := (Option.any_eq_true _ _).1 ((hs.2.2.2.2.2.2 a ha).1 d hd).2
  rw [hc]
  rfl

theorem Lawful.setAccess (hs : Lawful s) (ha : s.access = some a) (hpair : b.pair = a.pair) (hlive : b.live = a.live)
    (hkind : b.kind = a.kind) (hentry : b.entry = a.entry) (hfirst : b.first = a.first) : Lawful (s.setAccess (some b)) :=
  hs.of_access (u := s.setAccess (some b)) ha rfl hpair hlive hkind hentry hfirst rfl rfl rfl fun _ => rfl

theorem Lawful.endRead_idle (hs : Lawful s) (ha : s.access = some a) (hlive : a.live = true) (hkind : a.kind = .read)
    (hpair : b.pair = a.pair) (hentry : b.entry = a.entry) (failure : Option Status) :
    Lawful (Machine.endRead b failure (s.setAccess none)) :=
  hs.endRead (x := s.setAccess none) ha hlive hkind hpair hentry rfl rfl rfl rfl (fun _ _ => rfl) (hs.held_of_access ha) failure

/-- A beat that is ready (R152, R156). -/
theorem Lawful.beatReady (hs : Lawful s) (ha : s.access = some a) (n : Nat) (lines : Word) : Lawful (beatReady a n lines s) := by
  cases hkind : a.kind with
  | write =>
    rw [beatReady_of_write hkind, writtenBeat]
    split
    · exact hs.endWrite ha hkind _
    · exact hs.setAccess (b := { a with flight := none }) ha rfl rfl rfl rfl rfl
  | read =>
    cases hlive : a.live with
    | false =>
      rw [beatReady_of_removed hkind hlive]
      exact hs.endRemoved ha hlive _
    | true =>
      rw [beatReady_of_live_read hkind hlive]
      cases hentry : a.entry with
      | none =>
        rw [readBeat_of_no_entry hentry]
        split
        · exact hs.endRead_idle (b := { a with buffer := a.buffer ++ [a.value n lines] }) ha hlive hkind rfl rfl none
        · exact hs.setAccess (b := { a with flight := none, buffer := a.buffer ++ [a.value n lines] }) ha rfl rfl rfl rfl rfl
      | some e =>
        rw [readBeat_of_entry hentry]
        split
        · have hsame (d : EntryIx) : ((appendBeat e (a.value n lines) (s.setAccess none)).entries[d]).map (·.state) =
              (s.entries[d]).map (·.state) := state_appendBeat e d _ _
          obtain ⟨htags, hslots, hflags, haccess⟩ := tables_appendBeat e (a.value n lines) (s.setAccess none)
          refine hs.endRead ha hlive hkind rfl rfl htags hslots hflags haccess
            (fun d hd => entries_appendBeat_of_ne _ _ fun hde => hd (hde ▸ hentry)) (fun d hd => ?_) _
          have hheld := hs.held_of_access ha d hd
          rw [← Option.isSome_map (f := CaptureEntry.state)] at hheld ⊢
          rwa [hsame]
        · obtain ⟨htags, hslots, hflags, haccess⟩ :=
            tables_appendBeat e (a.value n lines) (s.setAccess (some { a with flight := none }))
          exact hs.of_access ha haccess rfl rfl rfl rfl rfl htags hslots hflags fun d => state_appendBeat e d _ _

/-- A beat that fails (R121, R122, R153 to R156). -/
theorem Lawful.beatFails (hs : Lawful s) (ha : s.access = some a) (n : Nat) (timeout : Bool) :
    Lawful (beatFails a n timeout s) := by
  cases hkind : a.kind with
  | write =>
    rw [beatFails_of_write hkind]
    exact (hs.endWrite ha hkind _).raise _
  | read =>
    cases hlive : a.live with
    | false =>
      rw [beatFails_of_removed hkind hlive]
      exact (hs.endRemoved ha hlive _).raise _
    | true =>
      rw [beatFails_of_live_read hkind hlive]
      exact (hs.endRead_idle ha hlive hkind rfl rfl _).raise _

end

end Sys2Proof.Machine
end

section
/-! SUPPORT. The laws of the tables over the grant of a record. -/

namespace Sys2Proof.Machine

/-! ## The grant of a record (R147 to R149) -/

/-- The access that is open for the record `x`, which lives, and the entry that it fills, which was loose. -/
structure OpensFor (s u : State) (p : Pair) (x : TagRecord) (a : Access) : Prop where
  access : u.access = some a
  live : a.live = true
  pair : a.pair = p
  fits : fits a.kind x = true
  entry : a.entry = x.entry
  first : a.entry = none → a.first = 0
  fills : ∀ e ∈ a.entry, a.kind = .read ∧ Loose s.entries[e] ∧ ∃ c n, u.entries[e] = some c ∧ c.state = .filling (some p) n

/-- The record `r` of `p`, which waits, is ISSUED as `x`: its access opens, with the entry that it is given, if any, or no
access does. -/
structure Issues (s u : State) (p : Pair) (r x : TagRecord) : Prop where
  idle : s.access = none
  live : s.tag p = some r
  waiting : r.position = .waiting
  now : u.tag p = some x
  kind : x.kind = r.kind
  place : x.place = r.place
  issued : x.position = .issued
  committed : x.writes = true → x.verdict = .committed
  tags : ∀ q : Pair, q ≠ p → u.tag q = s.tag q
  slots : u.slots = s.slots
  flags : u.lockLost = s.lockLost
  entries : ∀ d : EntryIx, x.entry ≠ some d → u.entries[d] = s.entries[d] ∨ Loose s.entries[d] ∧ Loose u.entries[d]
  opens : u.access = none ∧ x.entry = none ∨ ∃ a, OpensFor s u p x a

namespace Issues

variable {s u : State} {p : Pair} {r x : TagRecord} (hs : Lawful s) (h : Issues s u p r x)

section
include h

theorem eq_now {y : TagRecord} (hy : y ∈ u.tag p) : x = y := Option.some_inj.1 (h.now.symm.trans hy)

/-- An access that is open after the grant is the record's. -/
theorem opensFor {a : Access} (ha : a ∈ u.access) : OpensFor s u p x a := by
  obtain ⟨hclosed, -⟩ | ⟨b, hopens⟩ := h.opens
  · rw [hclosed] at ha
    cases ha
  · obtain rfl := Option.some_inj.1 (hopens.access.symm.trans ha)
    exact hopens

/-- An entry of the record is that of its access, and FILLING. -/
theorem filling {e : EntryIx} (he : x.entry = some e) : ∃ a, OpensFor s u p x a ∧ a.entry = some e ∧ x.reads = true ∧
    Loose s.entries[e] ∧ ∃ c n, u.entries[e] = some c ∧ c.state = .filling (some p) n := by
  obtain ⟨-, hnone⟩ | ⟨a, hopens⟩ := h.opens
  · rw [hnone] at he
    cases he
  · have hentry := hopens.entry.trans he
    obtain ⟨hread, hloose, hfilling⟩ := hopens.fills e hentry
    have hfits := hopens.fits
    rw [hread] at hfits
    exact ⟨a, hopens, hentry, hfits, hloose, hfilling⟩

theorem accessBound : AccessBound u := by
  intro a ha
  have hopens := h.opensFor ha
  refine ⟨fun e he => ?_, fun _ y hy => ?_⟩
  · obtain ⟨hread, -, c, n, hc, hstate⟩ := hopens.fills e he
    refine ⟨hread, ?_⟩
    rw [hc]
    simp [hstate, CaptureEntry.isFilling, EntryState.boundTo, Access.binds, hopens.live, hopens.pair]
  · rw [hopens.pair] at hy
    rw [hopens.entry, h.eq_now hy]

end

include hs h

theorem accessLaw : AccessLaw u := by
  obtain ⟨-, haccess, -⟩ := hs
  refine .of_one h.tags haccess (fun y hy hwrites _ => ?_) fun a ha => ?_
  · obtain rfl := h.eq_now hy
    exact h.committed hwrites
  · have hopens := h.opensFor ha
    refine ⟨fun _ => ?_, fun _ => hopens.live, hopens.first⟩
    rw [hopens.pair, h.now]
    simp [h.issued, hopens.fits]

theorem namesLaw : NamesLaw u := by
  obtain ⟨-, -, hnames, -⟩ := hs
  refine .of_one h.tags hnames (.of_same h.slots) (fun k v hv hn => ?_) fun k v hv hi hstate => ?_
  · rw [h.slots] at hv
    have hread := (hnames k v hv).1 p.tag hn.2
    rw [hn.1, h.live] at hread
    rw [h.now]
    simpa [h.kind] using hread
  · rw [h.slots] at hv
    have hwrite := (hnames k v hv).2 p.tag (by rw [hstate]; rfl)
    rw [hi, h.live] at hwrite
    rw [h.now]
    simp only [Option.any_some, Bool.and_eq_true, decide_eq_true_eq] at hwrite
    simp [h.kind, hwrite.1, h.issued]

theorem writingLaw : WritingLaw u := by
  obtain ⟨-, -, -, hwriting, -⟩ := hs
  refine .of_one h.tags hwriting (fun k v hv _ _ _ => ⟨v, by rwa [h.slots], .inl rfl⟩) fun y hy hkind _ => ?_
  obtain rfl := h.eq_now hy
  obtain ⟨k, v, hv, hrest⟩ := hwriting p.initiator p.tag r h.live (h.kind ▸ hkind) (by simp [h.waiting])
  exact ⟨k, v, by rwa [h.slots], by rwa [h.place]⟩

theorem bindingLaw : BindingLaw u := by
  refine .of_one (o := x.entry) h.tags hs.2.2.2.2 h.entries (fun y hy d hd => ?_) (fun d hd c hc q hq => ?_)
    (fun a ha => ?_) (fun y hy e he => ?_) (fun d hd c hc => ?_) h.accessBound
  · obtain rfl := Option.some_inj.1 (h.live.symm.trans hy)
    rw [entry_of_waiting hs h.live h.waiting] at hd
    cases hd
  · obtain ⟨-, -, -, -, hloose, -⟩ := h.filling hd
    rw [(not_bound_of_strand (hloose c hc)).1] at hq
    cases hq
  · rw [h.idle] at ha
    cases ha
  · obtain rfl := h.eq_now hy
    obtain ⟨-, -, -, hreads, -, c, n, hc, hstate⟩ := h.filling he
    refine ⟨hreads, by rw [h.issued]; exact Position.noConfusion, ?_⟩
    rw [hc]
    simp [hstate, EntryState.boundTo, CaptureEntry.isFilling]
  · obtain ⟨a, hopens, hentry, -, -, y, n, hy, hstate⟩ := h.filling hd
    obtain rfl := Option.some_inj.1 (hy.symm.trans hc)
    refine ⟨fun q hq => ?_, fun _ => by rw [hopens.access]; simp [hentry]⟩
    rw [hstate] at hq
    refine ⟨(Option.some_inj.1 hq).symm, ?_⟩
    rw [h.now]
    simpa using hd

theorem lawful : Lawful u :=
  ⟨hs.1.of_same h.slots h.flags, accessLaw hs h, namesLaw hs h, writingLaw hs h, bindingLaw hs h⟩

end Issues

section
variable {s u : State} {p : Pair} {r x : TagRecord} {pl : Place}

/-- What a read takes comes from strands, and leaves strands or nothing (R96). -/
theorem loose_consumption (pl : Place) (size : BeatSize) (count : Nat) (t : State) (ht : t.entries = s.entries)
    (d : EntryIx) :
    (consumeAll (s.consumption pl size count) t).entries[d] = s.entries[d] ∨
      Loose s.entries[d] ∧ Loose (consumeAll (s.consumption pl size count) t).entries[d] := by
  by_cases hmem : ∃ y ∈ s.consumption pl size count, y.entry = d
  · obtain ⟨y, hy, rfl⟩ := hmem
    have hstrand : y.strand.isStrand = true :=
      (State.mem_strandsUnder_iff.1 (State.mem_compatible_iff.1 (mem_consumption hy).1).1).2.1
    refine .inr ⟨?_, ?_⟩
    · rw [entries_of_mem_consumption hy]
      exact fun c hc => Option.some_inj.1 hc ▸ hstrand
    · rw [entries_consumeAll_of_mem nodup_consumption hy, Taken.left]
      split
      · exact fun c hc => (by cases hc)
      · exact fun c hc => Option.some_inj.1 hc ▸ hstrand
  · push Not at hmem
    rw [entries_consumeAll_of_not_mem hmem]
    exact .inl (by simp only [ht])

theorem kind_firstAccess {first : Nat} {o : Option EntryIx} (h : x.reads = true) :
    (firstAccess s p x pl first o).kind = .read := by
  simp only [firstAccess, h, if_true]

theorem fits_firstAccess {first : Nat} {o : Option EntryIx} (h : x.reads = true ∨ x.writes = true) :
    fits (firstAccess s p x pl first o).kind x = true := by
  cases hreads : x.reads with
  | true =>
    rw [kind_firstAccess hreads]
    exact hreads
  | false =>
    simp only [firstAccess, hreads, Bool.false_eq_true, if_false]
    exact h.resolve_left (by simp [hreads])

theorem readsOnly_of_guarded (hguarded : IsGuarded r pl) : r.reads = true ∧ r.writes = false ∧ r.kind ≠ .lockWrite := by
  obtain ⟨hkind | hkind, -⟩ := hguarded <;> simp [TagRecord.reads, TagRecord.writes, hkind]

/-- Of `s` the record of `p` has been ISSUED, and strands have changed; nothing else that a law speaks of. -/
structure Consumed (s : State) (p : Pair) (r : TagRecord) (v : State) : Prop where
  now : v.tag p = some { r with position := .issued }
  tags : ∀ q : Pair, q ≠ p → v.tag q = s.tag q
  slots : v.slots = s.slots
  flags : v.lockLost = s.lockLost
  access : v.access = s.access
  entries : ∀ d : EntryIx, v.entries[d] = s.entries[d] ∨ Loose s.entries[d] ∧ Loose v.entries[d]

theorem consumed_granted : Consumed s p r (s.granted p r) where
  now := State.tag_setTag_self ..
  tags _ hq := State.tag_setTag_of_ne s hq _
  slots := rfl
  flags := rfl
  access := rfl
  entries _ := .inl rfl

theorem consumed_consumeAll (pl : Place) (size : BeatSize) (count : Nat) :
    Consumed s p r (consumeAll (s.consumption pl size count) (s.granted p r)) := by
  have hloose := loose_consumption pl size count (s.granted p r) rfl
  obtain ⟨es, hes⟩ := consumeAll_only (s.granted p r) (s.consumption pl size count)
  refine ⟨tag_consumeAll_granted _, fun q hq => ?_, by rw [hes]; rfl, by rw [hes]; rfl, by rw [hes]; rfl, hloose⟩
  rw [hes]
  exact State.tag_setTag_of_ne s hq _

namespace Consumed

variable {v : State} (h : Consumed s p r v)
include h

/-- An entry that is FREE once the strands are consumed was FREE or a strand. -/
theorem loose_of_lowestFree {e : EntryIx} (he : v.lowestFree = some e) : Loose s.entries[e] := by
  obtain hsame | ⟨hloose, -⟩ := h.entries e
  · rw [← hsame, State.free_of_lowestFree he]
    exact fun c hc => (by cases hc)
  · exact hloose

/-- Giving an entry to the record leaves the others. -/
theorem entries_giveEntry {e d : EntryIx} (hd : some e ≠ some d) (c : CaptureEntry) :
    (giveEntry e c v).entries[d] = s.entries[d] ∨ Loose s.entries[d] ∧ Loose (giveEntry e c v).entries[d] := by
  have hother : (giveEntry e c v).entries[d] = v.entries[d] := by
    change (v.setEntry e _).entries[d] = _
    rw [State.entries_setEntry, if_neg fun h => hd (congrArg some h.symm)]
  rw [hother]
  exact h.entries d

variable (hs : Lawful s) (hr : s.tag p = some r) (hwaiting : r.position = .waiting)
include hs hr hwaiting

theorem ends {u : State} {o : Option EntryIx} (htags : ∀ q : Pair, q ≠ p → u.tag q = v.tag q)
    (hflags : u.lockLost = v.lockLost) (haccess : u.access = v.access)
    (hentries : ∀ d : EntryIx, o ≠ some d → u.entries[d] = s.entries[d] ∨ Loose s.entries[d] ∧ Loose u.entries[d])
    (hown : ∀ d ∈ o, Loose s.entries[d]) : Ends s u p r o where
  live := hr
  tags q hq := (htags q hq).trans (h.tags q hq)
  entries := hentries
  flags := hflags.trans h.flags
  old d hd := by rw [entry_of_waiting hs hr hwaiting] at hd; cases hd
  own d hd := .inr (hown d hd)
  access := .inl ⟨haccess.trans h.access, by rw [hwaiting]; exact Position.noConfusion⟩

/-- A record that its grant answers, without an entry. -/
theorem answered (hnotWrite : r.kind ≠ .lockWrite) (y : Response) :
    Lawful (releaseIfFinished p ((v.setTag p (some { { r with position := Position.issued } with
      position := .done, response := .sent })).respond y)) := by
  have hrec := releaseIfFinished_answered (s := v) (p := p) (r := { r with position := Position.issued }) y
  have hentry : r.entry = none := entry_of_waiting hs hr hwaiting
  rw [hrec]
  split
  · exact hs.releaseRecord (x := v.respond y) hr h.tags h.slots h.flags (fun d _ => h.entries d)
      (.inl ⟨h.access, by rw [hwaiting]; exact Position.noConfusion⟩) (fun h => absurd h hnotWrite) rfl
  · have hends : Ends s ((v.respond y).setTag p (some { r with position := .done, response := .sent })) p r none :=
      h.ends hs hr hwaiting (fun q hq => State.tag_setTag_of_ne _ hq _) rfl rfl (fun d _ => h.entries d)
        fun d hd => (by cases hd)
    exact hends.lawful_of_done hs (State.tag_setTag_self ..) rfl hnotWrite rfl h.slots
      (.inl ⟨hentry, fun d hd => (by cases hd)⟩)

/-- An uncommitted guarded read that strands serve wholly captures its beats in the entry that it is given (R71). -/
theorem captured (hguarded : IsGuarded r pl) (hverdict : r.verdict = .none) {e : EntryIx} (hfree : v.lowestFree = some e)
    (beats : List Word) : Lawful (servedWholly p { r with position := .issued, entry := some e } beats
      (giveEntry e (allocated r pl beats (.captured p) v) v)) := by
  obtain ⟨hreads, -, hnotWrite⟩ := readsOnly_of_guarded hguarded
  rw [servedWholly_of_uncommitted (r := { r with position := .issued, entry := some e }) hverdict]
  refine Ends.lawful_of_done (o := some e) (r := r) hs
    (h.ends hs hr hwaiting (fun q hq => State.tag_setTag_of_ne _ hq _) rfl rfl (fun d hd => h.entries_giveEntry hd _)
      fun d hd => ?_) (State.tag_setTag_self ..) rfl hnotWrite rfl h.slots
    (.inr ⟨hverdict, rfl, hreads, e, _, rfl, rfl, State.entries_setEntry_self .., rfl⟩)
  obtain rfl := Option.some_inj.1 hd
  exact h.loose_of_lowestFree hfree

variable (hidle : s.access = none)
include hidle

/-- With no entry FREE the read is ISSUED alone. -/
theorem full (hcommitted : r.writes = true → r.verdict = .committed) : Lawful v := by
  have hentry := entry_of_waiting hs hr hwaiting
  exact Issues.lawful hs
    { idle := hidle, live := hr, waiting := hwaiting, now := h.now, kind := rfl, place := rfl, issued := rfl
      committed := hcommitted, tags := h.tags, slots := h.slots, flags := h.flags, entries := fun d _ => h.entries d
      opens := .inl ⟨h.access.trans hidle, hentry⟩ }

/-- A guarded read with beats left for the target fills the entry that it is given (R71). -/
theorem filled (hguarded : IsGuarded r pl) {e : EntryIx} (hfree : v.lowestFree = some e) (beats : List Word) (left : Nat) :
    Lawful (openAccess p { r with position := .issued, entry := some e } pl beats.length (some e)
      ((giveEntry e (allocated r pl beats (.filling (some p) left) v) v).setTag p
        (some { r with position := .issued, entry := some e }))) := by
  obtain ⟨hreads, hnotWrites, hnotWrite⟩ := readsOnly_of_guarded hguarded
  let c := allocated r pl beats (.filling (some p) left) v
  let w := (giveEntry e c v).setTag p (some { r with position := .issued, entry := some e })
  have hx : w.tag p = some { r with position := .issued, entry := some e } := State.tag_setTag_self ..
  have hown : w.entries[e] = some c := State.entries_setEntry_self ..
  change Lawful (openAccess p { r with position := .issued, entry := some e } pl beats.length (some e) w)
  rw [openAccess_eq hx]
  refine Issues.lawful (x := { r with position := .issued, entry := some e }) hs
    { idle := hidle, live := hr, waiting := hwaiting, now := hx, kind := rfl, place := rfl, issued := rfl
      committed := fun h => absurd (hnotWrites.symm.trans h) Bool.false_ne_true
      tags := fun q hq => (State.tag_setTag_of_ne _ hq _).trans (h.tags q hq), slots := h.slots, flags := h.flags
      entries := fun d hd => h.entries_giveEntry hd c
      opens := .inr ⟨_, rfl, rfl, rfl, fits_firstAccess (.inl hreads), rfl, fun h => (by cases h), fun d hd => ?_⟩ }
  obtain rfl := Option.some_inj.1 hd
  exact ⟨kind_firstAccess hreads, h.loose_of_lowestFree hfree, c, _, hown, rfl⟩

end Consumed

section
variable (hs : Lawful s) (hr : s.tag p = some r) (hwaiting : r.position = .waiting) (hidle : s.access = none)
  (hkind : r.kind ≠ .unlock) (hcommitted : r.writes = true → r.verdict = .committed)
include hs hr hwaiting hidle hkind hcommitted

/-- A read of a PASS region and a write open their access alone. -/
theorem Lawful.granted_opens : Lawful (openAccess p { r with position := .issued } pl 0 none (s.granted p r)) := by
  have hx : (s.granted p r).tag p = some { r with position := .issued } := State.tag_setTag_self ..
  rw [openAccess_eq hx]
  refine Issues.lawful (x := { r with position := .issued }) hs
    { idle := hidle, live := hr, waiting := hwaiting, now := hx, kind := rfl, place := rfl, issued := rfl
      committed := hcommitted, tags := fun q hq => State.tag_setTag_of_ne s hq _, slots := rfl, flags := rfl
      entries := fun d _ => .inl rfl
      opens := .inr ⟨_, rfl, rfl, rfl, fits_firstAccess ?_, (entry_of_waiting hs hr hwaiting).symm, fun _ => rfl,
        fun e he => (by cases he)⟩ }
  revert hkind
  cases hk : r.kind <;> simp [TagRecord.reads, TagRecord.writes]

/-- The grant of an eligible record. -/
theorem Lawful.grantRecord (h : Grants p r pl s u) : Lawful u := by
  cases h with
  | opens => exact hs.granted_opens hr hwaiting hidle hkind hcommitted
  | refuses hguarded =>
    exact (consumed_granted.answered hs hr hwaiting (readsOnly_of_guarded hguarded).2.2 _).raise _
  | served v hguarded _ hv =>
    subst hv
    exact (consumed_consumeAll pl r.size r.count).answered hs hr hwaiting (readsOnly_of_guarded hguarded).2.2 _
  | full v _ _ hv =>
    subst hv
    exact (consumed_consumeAll pl r.size r.count).full hs hr hwaiting hidle hcommitted
  | captures v e hguarded _ hv hfree _ hverdict =>
    subst hv
    exact (consumed_consumeAll pl r.size r.count).captured hs hr hwaiting hguarded hverdict hfree _
  | fills v e hguarded _ hv hfree =>
    subst hv
    exact (consumed_consumeAll pl r.size r.count).filled hs hr hwaiting hidle hguarded hfree _ _

end

end

end Sys2Proof.Machine
end

section
/-! SUPPORT. The laws of the tables over requests, verdicts, broken reservations and a tick. -/

namespace Sys2Proof.Machine

/-! ## Requests (R25 to R33, R131, R136) -/

section
variable {s u : State} {q : Request}

theorem addRecord_eq_joinedBy (r : TagRecord) :
    addRecord q.pair r s = s.joinedBy q { r with order := s.acceptance[q.initiator] } := rfl

theorem Lawful.refuse (hs : Lawful s) (hfree : s.tag q.pair = none) (kind : Kind) (status : Status) :
    Lawful (refuse kind q status s) := by
  unfold Machine.refuse
  simp only
  split
  · rw [addRecord_eq_joinedBy]
    exact (hs.respond _).joinedBy (s := s.respond (.error q.pair status)) hfree rfl (by simp [errorRecord]) fun _ => rfl
  · exact hs.respond _

theorem Lawful.take (hs : Lawful s) (hfree : s.tag q.pair = none) {kind : Kind} (hkind : kind ≠ .lockWrite)
    (pl : Option Place) : Lawful (take kind q pl s) := by
  have hjoined : Lawful (addRecord q.pair (takenRecord kind q pl) s) := by
    rw [addRecord_eq_joinedBy]
    exact hs.joinedBy hfree rfl (by simp [takenRecord]) fun h => absurd h hkind
  unfold Machine.take
  simp only
  split
  · exact hjoined.respond _
  · exact hjoined

/-- A slot of `u` is the one that is taken, or as it was. -/
theorem State.slots_of_taken {k l : SlotIx} {v w : Reservation}
    (hslots : ∀ l : SlotIx, u.slots[l] = if l = k then some v else s.slots[l]) (hw : w ∈ u.slots[l]) :
    l = k ∧ w = v ∨ l ≠ k ∧ w ∈ s.slots[l] := by
  rw [hslots] at hw
  split at hw
  · exact .inl ⟨‹_›, (Option.some_inj.1 hw).symm⟩
  · exact .inr ⟨‹_›, hw⟩

/-- A LOCK-READ takes a free slot for the record that has joined (R131). -/
theorem Lawful.takeSlot (hs : Lawful s) (hlock : LockLaw u) {k : SlotIx} {v : Reservation} {n : Nat}
    (hfree : s.slots[k] = none) (hstate : v.state = .reserved n)
    (hread : ∀ t ∈ v.lockRead, (s.tag ⟨v.initiator, t⟩).any (fun w => decide (w.kind = .lockRead)) = true)
    (hslots : ∀ l : SlotIx, u.slots[l] = if l = k then some v else s.slots[l]) (htags : u.tags = s.tags)
    (hentries : u.entries = s.entries) (haccess : u.access = s.access) : Lawful u := by
  have htag (p : Pair) : u.tag p = s.tag p := State.tag_congr htags p
  obtain ⟨-, haccessLaw, hnames, hwriting, hbinding⟩ := hs
  refine ⟨hlock, ?_, fun l w hw => ?_, fun i t w hw hkind hposition => ?_, ?_⟩
  · simpa only [AccessLaw, htag, haccess] using haccessLaw
  · obtain ⟨-, rfl⟩ | ⟨-, hw⟩ := State.slots_of_taken hslots hw
    · simp only [htag]
      exact ⟨hread, fun t ht => by rw [hstate] at ht; cases ht⟩
    · simp only [htag]
      exact hnames l w hw
  · rw [htag] at hw
    obtain ⟨l, x, hx, hrest⟩ := hwriting i t w hw hkind hposition
    refine ⟨l, x, ?_, hrest⟩
    rw [hslots, if_neg]
    · exact hx
    · rintro rfl
      rw [hfree] at hx
      cases hx
  · simpa only [BindingLaw, RecordsBound, EntriesBound, AccessBound, htag, hentries, haccess] using hbinding

/-- The LOCK-WRITE `w` joins on a free pair, inside the granule of the RESERVED reservation `v` of its initiator (R136). -/
structure JoinsLock (s : State) (q : Request) (k : SlotIx) (v : Reservation) (w : TagRecord) (pl : Place) : Prop where
  free : s.tag q.pair = none
  slot : s.slots[k] = some v
  holder : v.initiator = q.initiator
  reserved : ∃ n : Nat, v.state = .reserved n
  kind : w.kind = .lockWrite
  waiting : w.position = .waiting
  entry : w.entry = none
  place : w.place = some pl
  select : v.select = pl.select
  granule : v.granule.toNat = pl.start.toNat / 8 * 8

/-- The record has joined, and the reservation is WRITING from then on. -/
abbrev State.joinedIn (s : State) (q : Request) (k : SlotIx) (v : Reservation) (w : TagRecord) : State :=
  (s.joinedBy q w).setSlot k (some { v with state := .writing q.tag })

namespace JoinsLock

variable {k : SlotIx} {v : Reservation} {w : TagRecord} {pl : Place} (hs : Lawful s) (h : JoinsLock s q k v w pl)

omit h in
theorem tag_joinedIn (p : Pair) : (s.joinedIn q k v w).tag p = (s.joinedBy q w).tag p := rfl

omit h in
theorem slots_joinedIn (l : SlotIx) : (s.joinedIn q k v w).slots[l] =
    if l = k then some { v with state := .writing q.tag } else s.slots[l] := State.slots_setSlot ..

omit h in
theorem tag_own : (s.joinedIn q k v w).tag q.pair = some w := by
  rw [tag_joinedIn, State.tag_joinedBy, if_pos rfl]

section
include h

/-- A record of `s` is that of another pair, and stays. -/
theorem tag_other {p : Pair} {x : TagRecord} (hx : s.tag p = some x) : (s.joinedIn q k v w).tag p = some x := by
  rw [tag_joinedIn, State.tag_joinedBy, if_neg, hx]
  rintro rfl
  rw [h.free] at hx
  cases hx

theorem any_other {p : Pair} {f : TagRecord → Bool} (hf : (s.tag p).any f = true) :
    ((s.joinedIn q k v w).tag p).any f = true := by
  obtain ⟨x, hx, hof⟩ := (Option.any_eq_true _ _).1 hf
  rw [h.tag_other hx]
  exact hof

omit h in
/-- A record of the state after it is the one that has joined, or was there. -/
theorem tag_cases {p : Pair} {x : TagRecord} (hx : (s.joinedIn q k v w).tag p = some x) :
    p = q.pair ∧ x = w ∨ s.tag p = some x := by
  rw [tag_joinedIn, State.tag_joinedBy] at hx
  split at hx
  · exact .inl ⟨‹_›, (Option.some_inj.1 hx).symm⟩
  · exact .inr hx

end

include hs h

theorem lockLaw : LockLaw (s.joinedIn q k v w) := by
  refine hs.1.of_less (fun l x hx => ?_) fun i hi => hi
  obtain ⟨rfl, rfl⟩ | ⟨-, hx⟩ := State.slots_of_taken slots_joinedIn hx
  · exact ⟨v, h.slot, rfl⟩
  · exact ⟨x, hx, rfl⟩

theorem accessLaw : AccessLaw (s.joinedIn q k v w) := by
  obtain ⟨-, ⟨hissued, hopen⟩, -⟩ := hs
  refine ⟨fun i t x hx hwrites hposition => ?_, fun a ha => ?_⟩
  · obtain ⟨-, rfl⟩ | hx := tag_cases hx
    · rw [h.waiting] at hposition
      cases hposition
    · exact hissued i t x hx hwrites hposition
  · obtain ⟨hlive, hrest⟩ := hopen a ha
    exact ⟨fun hl => h.any_other (hlive hl), hrest⟩

theorem namesLaw : NamesLaw (s.joinedIn q k v w) := by
  obtain ⟨-, -, hnames, -⟩ := hs
  intro l x hx
  obtain ⟨rfl, rfl⟩ | ⟨-, hx⟩ := State.slots_of_taken slots_joinedIn hx
  · refine ⟨fun t ht => h.any_other ((hnames _ v h.slot).1 t ht), fun t ht => ?_⟩
    obtain rfl : q.tag = t := Option.some_inj.1 ht
    have hpair : (⟨v.initiator, q.tag⟩ : Pair) = q.pair := by rw [h.holder]; rfl
    change ((s.joinedIn q _ v w).tag ⟨v.initiator, q.tag⟩).any _ = true
    rw [hpair, tag_own]
    simp [h.kind, h.waiting]
  · obtain ⟨hread, hwrite⟩ := hnames l x hx
    exact ⟨fun t ht => h.any_other (hread t ht), fun t ht => h.any_other (hwrite t ht)⟩

theorem writingLaw : WritingLaw (s.joinedIn q k v w) := by
  obtain ⟨-, -, -, hwriting, -⟩ := hs
  intro i t x hx hkind hposition
  obtain ⟨hp, rfl⟩ | hx := tag_cases hx
  · refine ⟨k, { v with state := .writing q.tag }, by rw [slots_joinedIn, if_pos rfl]; rfl, ?_, ?_, fun y hy => ?_⟩
    · exact h.holder.trans (congrArg Pair.initiator hp).symm
    · exact congrArg LockState.writing (congrArg Pair.tag hp).symm
    · obtain rfl := Option.some_inj.1 (h.place.symm.trans hy)
      exact ⟨h.select, h.granule⟩
  · obtain ⟨l, y, hy, hrest⟩ := hwriting i t x hx hkind hposition
    refine ⟨l, y, ?_, hrest⟩
    rw [slots_joinedIn, if_neg]
    · exact hy
    · rintro rfl
      obtain rfl := Option.some_inj.1 (h.slot.symm.trans hy)
      obtain ⟨n, hstate⟩ := h.reserved
      rw [hstate] at hrest
      cases hrest.2.1

theorem bindingLaw : BindingLaw (s.joinedIn q k v w) := by
  obtain ⟨-, ⟨-, haccess⟩, -, -, hrecords, hentries, hopen⟩ := hs
  refine ⟨fun i t x hx e he => ?_, fun e c hc => ?_, fun a ha => ?_⟩
  · obtain ⟨-, rfl⟩ | hx := tag_cases hx
    · rw [h.entry] at he
      cases he
    · exact hrecords i t x hx e he
  · obtain ⟨howner, hfilling⟩ := hentries e c hc
    exact ⟨fun p hp => h.any_other (howner p hp), hfilling⟩
  · obtain ⟨hown, hrecord⟩ := hopen a ha
    refine ⟨hown, fun hlive x hx => ?_⟩
    obtain ⟨y, hy, -⟩ := (Option.any_eq_true _ _).1 ((haccess a ha).1 hlive)
    obtain rfl := Option.some_inj.1 ((h.tag_other hy).symm.trans hx)
    exact hrecord hlive y hy

theorem lawful : Lawful (s.joinedIn q k v w) :=
  ⟨h.lockLaw hs, h.accessLaw hs, h.namesLaw hs, h.writingLaw hs, h.bindingLaw hs⟩

end JoinsLock

theorem Lawful.plainLockCheck (hs : Lawful s) (hfree : s.tag q.pair = none) {kind : Kind} (hkind : kind ≠ .lockWrite)
    (pl : Place) : Lawful (plainLockCheck kind q pl s) := by
  unfold Machine.plainLockCheck
  split
  · exact hs.respond _
  · exact hs.take hfree hkind _

/-- A LOCK-READ that passes its checks: its record joins and its reservation is made. -/
theorem Lawful.lockTaken (hs : Lawful s) (hfree : s.tag q.pair = none) {pl : Place} {limit : BitVec 10} {k : SlotIx}
    (hlock : LockLaw (s.lockTaken q pl limit k)) (hslot : s.slots[k] = none) : Lawful (s.lockTaken q pl limit k) := by
  let r := { recordWith .lockRead q (some pl) s.acceptance[q.initiator] with timer := startTimer q pl.verdictLimit }
  have hjoined : Lawful (s.joinedBy q r) := hs.joinedBy hfree rfl (by simp [r, recordWith]) fun h => by cases h
  refine hjoined.takeSlot (k := k) (n := limit.toNat)
    (v := { initiator := q.initiator, select := pl.select, granule := granuleOf pl.start, region := pl.region
            state := .reserved limit.toNat, lockRead := some q.tag })
    hlock hslot rfl (fun t ht => ?_) (fun l => State.slots_setSlot (s.joinedBy q r) k l _) rfl rfl rfl
  obtain rfl : q.tag = t := Option.some_inj.1 ht
  change ((s.joinedBy q r).tag q.pair).any _ = true
  rw [State.tag_joinedBy, if_pos rfl]
  rfl

theorem Lawful.lockReadCheck (hs : Lawful s) (hfree : s.tag q.pair = none) (permitted : Bool) (limit : BitVec 10)
    (pl : Place) (hlock : LockLaw (lockReadCheck q permitted limit pl s)) :
    Lawful (lockReadCheck q permitted limit pl s) := by
  unfold Machine.lockReadCheck at hlock ⊢
  split
  · exact hs.refuse hfree _ _
  · rename_i hpermitted
    rw [if_neg hpermitted] at hlock
    split
    · exact hs.refuse hfree _ _
    · rename_i hheld
      rw [if_neg hheld] at hlock
      split
      · exact hs.respond _
      · rename_i hopen
        rw [if_neg hopen] at hlock
        split
        · exact hs.respond _
        · rename_i k hslot
          rw [hslot] at hlock
          exact hs.lockTaken hfree hlock (State.freeSlot_eq_some_iff.1 hslot).1

theorem Lawful.lockWriteCheck (hs : Lawful s) (hfree : s.tag q.pair = none) (pl : Place) :
    Lawful (lockWriteCheck q pl s) := by
  unfold Machine.lockWriteCheck
  split
  · exact (hs.setLockLost_false q.initiator).refuse (s := s.setLockLost q.initiator false) hfree _ _
  · rename_i k v hheld
    obtain ⟨hslot, hmine⟩ := State.slots_of_slotWhere_eq_some hheld
    split
    · exact hs.refuse hfree _ _
    · rename_i n hstate
      split
      · rename_i hinside
        rw [take_lockWrite]
        exact JoinsLock.lawful (pl := pl) hs
          { free := hfree, slot := hslot, holder := of_decide_eq_true hmine, reserved := ⟨n, hstate⟩, kind := rfl, waiting := rfl
            entry := rfl, place := rfl, select := hinside.1.symm, granule := by rw [← hinside.2, granuleOf_toNat] }
      · exact hs.refuse hfree _ _

theorem Lawful.addressed (hs : Lawful s) (hfree : s.tag q.pair = none) (kind : Kind) (hlock : LockLaw (addressed kind q s)) :
    Lawful (addressed kind q s) := by
  unfold Machine.addressed at hlock ⊢
  split
  · exact (hs.refuse hfree _ _).raise _
  · rename_i r c hmatch
    rw [hmatch] at hlock
    simp only at hlock ⊢
    split
    · exact hs.refuse hfree _ _
    · rename_i haligned
      rw [if_neg haligned] at hlock
      split
      · exact hs.refuse hfree _ _
      · rename_i hwhole
        rw [if_neg hwhole] at hlock
        split
        · exact hs.respond _
        · rename_i hopen
          rw [if_neg hopen] at hlock
          cases kind with
          | read => exact hs.plainLockCheck hfree (by simp) _
          | write => exact hs.plainLockCheck hfree (by simp) _
          | lockRead => exact hs.lockReadCheck hfree _ _ _ hlock
          | lockWrite => exact hs.lockWriteCheck hfree _
          | unlock => exact hs.take hfree (by simp) _

theorem Lawful.accept (hs : Lawful s) (kind : Kind) (q : Request) (hlock : LockLaw (accept kind q s)) :
    Lawful (accept kind q s) := by
  unfold Machine.accept at hlock ⊢
  split
  · exact hs.respond _
  · rename_i hrunning
    rw [if_neg hrunning] at hlock
    split
    · exact hs.raise _
    · rename_i hlive
      rw [if_neg hlive] at hlock
      have hfree : s.tag q.pair = none := by simpa using hlive
      split
      · exact hs.refuse hfree _ _
      · rename_i hgood
        rw [if_neg hgood] at hlock
        cases kind with
        | unlock => exact hs.take hfree (by simp) _
        | read => exact hs.addressed hfree _ hlock
        | write => exact hs.addressed hfree _ hlock
        | lockRead => exact hs.addressed hfree _ hlock
        | lockWrite => exact hs.addressed hfree _ hlock

end

/-! ## Verdicts (R45, R46, R49) -/

section
variable {s : State} {p : Pair} {r : TagRecord}

/-- A COMMIT sets the verdict of a record that is not finished by it, whose entry, if any, is FILLING; or releases it. -/
theorem Lawful.commit (hs : Lawful s) (hr : s.tag p = some r) :
    Lawful (releaseIfFinished p (s.setTag p (some r.madeCommitted))) := by
  have hnow : (s.setTag p (some r.madeCommitted)).tag p = some r.madeCommitted := State.tag_setTag_self ..
  by_cases hfinished : r.position = .done ∧ r.response = .sent
  · rw [releaseIfFinished_of_finished hnow (TagRecord.finished_madeCommitted_iff.2 hfinished)]
    exact hs.releaseRecord hr (fun q hq => State.tag_setTag_of_ne s hq _) rfl rfl (fun d _ => .inl rfl)
      (.inl ⟨rfl, by simp [hfinished.1]⟩) (fun _ => hfinished.1) rfl
  · rw [releaseIfFinished_of_unfinished hnow (mt TagRecord.finished_madeCommitted_iff.1 hfinished)]
    refine Remade.lawful hs
      { live := hr, now := hnow, tags := fun q hq => State.tag_setTag_of_ne s hq _, kind := rfl, place := rfl, position := rfl
        entry := rfl, verdict := fun _ => rfl, bound := .inr fun e he => ?_
        slots := rfl, flags := rfl, access := rfl, entries := rfl }
    obtain ⟨c, hc, hbound⟩ := (Option.any_eq_true _ _).1 (hs.2.2.2.2.1 p.initiator p.tag r hr e he).2.2
    simp only [Bool.and_eq_true, Bool.or_eq_true, decide_eq_true_eq] at hbound
    rw [hc]
    exact hbound.2.resolve_right fun h => hfinished ⟨h.1.2, h.2⟩

theorem mem_flushed {i : Initiator} {order : Nat} {q : Pair} : q ∈ flushed i order s ↔
    q.initiator = i ∧ ∃ w, s.tag q = some w ∧ w.verdict = .none ∧ order ≤ w.order := by
  rw [flushed, List.mem_filter, mem_pairsOf, Option.any_eq_true]
  simp only [Bool.and_eq_true, decide_eq_true_eq]

theorem nodup_flushed (i : Initiator) (order : Nat) (s : State) : (flushed i order s).Nodup := by
  refine List.Nodup.filter _ ((List.nodup_finRange 16).map fun t u h => ?_)
  exact congrArg Pair.tag h

/-- The removal of a FLUSH, place by place (R49, R50). -/
theorem removes_flushed (hs : Lawful s) (i : Initiator) (order : Nat) :
    Removes (fun q => (flushed i order s).contains q) s (removeRecords (flushed i order s) s) := by
  refine removes_removeRecords (i := i) hs (nodup_flushed i order s) fun q hq => ?_
  obtain ⟨hi, w, hw, hverdict, -⟩ := mem_flushed.1 hq
  exact ⟨hi, w, hw, hverdict⟩

theorem Lawful.flush (hs : Lawful s) (i : Initiator) (order : Nat) : Lawful (removeRecords (flushed i order s) s) := by
  refine (removes_flushed hs i order).lawful hs fun q hq w hw => ?_
  obtain ⟨-, x, hx, hverdict, -⟩ := mem_flushed.1 (List.contains_iff_mem.1 hq)
  rwa [Option.some_inj.1 (hx.symm.trans hw)] at hverdict

theorem Lawful.removeOne (hs : Lawful s) (hr : s.tag p = some r) (hverdict : r.verdict = .none) :
    Lawful (removeRecords [p] s) := by
  refine (removes_one hs hr hverdict).lawful hs fun q hq w hw => ?_
  obtain rfl := of_decide_eq_true hq
  rwa [Option.some_inj.1 (hr.symm.trans hw)] at hverdict

end

/-! ## Broken reservations (R135) -/

section
variable {s : State} {k : SlotIx} {v : Reservation}

theorem Lawful.lockFreed (hs : Lawful s) (hslot : s.slots[k] = some v) {n : Nat} (hstate : v.state = .reserved n) :
    Lawful (s.lockFreed k v.initiator) :=
  ⟨hs.1.lockFreed hslot, (hs.setSlot_none hslot hstate).2⟩

theorem Lawful.breakReservation (hs : Lawful s) (hslot : s.slots[k] = some v) {n : Nat} (hstate : v.state = .reserved n)
    (cause : Nat) : Lawful (breakReservation k v cause s) := by
  have hfreed := hs.lockFreed hslot hstate
  cases hread : v.lockRead with
  | none =>
    rw [breakReservation_of_no_record hread]
    exact hfreed.raise _
  | some t =>
    obtain ⟨w, hw⟩ := NamesLaw.lockRead_live hs.2.2.1 hslot hread
    rw [breakReservation_of_record hread hw]
    refine Lawful.raise ?_ _
    exact Remade.lawful hfreed
      { live := hw, now := State.tag_setTag_self .., tags := fun q hq => State.tag_setTag_of_ne _ hq _, kind := rfl
        place := rfl, position := rfl, entry := rfl, verdict := id, bound := .inl ⟨rfl, rfl⟩
        slots := rfl, flags := rfl, access := rfl, entries := rfl }

end

/-! ## A tick (R188) -/

section
variable {s : State}

/-- A tick counts in a reservation only its time. -/
theorem key_and_names_tick (v : Reservation) : v.tick.initiator = v.initiator ∧ v.tick.lockRead = v.lockRead ∧
    v.tick.state.lockWrite = v.state.lockWrite ∧ v.tick.select = v.select ∧ v.tick.granule = v.granule ∧
    ∀ t, v.state = .writing t → v.tick.state = .writing t := by
  cases hstate : v.state <;> simp [Reservation.tick, hstate, LockState.lockWrite]

/-- A tick leaves what an entry is bound to. -/
theorem boundTo_tick (c : CaptureEntry) : c.tick.state.boundTo = c.state.boundTo ∧ c.tick.isFilling = c.isFilling := by
  cases hstate : c.state <;> simp [CaptureEntry.tick, hstate, EntryState.boundTo, CaptureEntry.isFilling]

theorem any_tag_countTick (p : Pair) {f : TagRecord → Bool} (hf : ∀ r : TagRecord, f r.tick = f r) :
    ((countTick s).tag p).any f = (s.tag p).any f := by
  rw [tag_countTick, Option.any_map]
  exact congrArg (Option.any · (s.tag p)) (funext hf)

theorem any_entries_countTick (e : EntryIx) {f : CaptureEntry → Bool} (hf : ∀ c : CaptureEntry, f c.tick = f c) :
    ((countTick s).entries[e]).any f = (s.entries[e]).any f := by
  rw [entries_countTick, Option.any_map]
  exact congrArg (Option.any · s.entries[e]) (funext hf)

theorem mem_tag_countTick {p : Pair} {r : TagRecord} (hr : r ∈ (countTick s).tag p) : ∃ w, s.tag p = some w ∧ w.tick = r := by
  rw [tag_countTick] at hr
  exact Option.map_eq_some_iff.1 hr

theorem access_countTick (s : State) : (countTick s).access = s.access.map Access.tick := rfl

theorem accessLaw_countTick (haccess : AccessLaw s) : AccessLaw (countTick s) := by
  refine ⟨fun i t r hr => ?_, fun a ha => ?_⟩
  · obtain ⟨w, hw, rfl⟩ := mem_tag_countTick hr
    exact haccess.1 i t w hw
  · obtain ⟨b, hb, rfl⟩ := Option.map_eq_some_iff.1 ha
    obtain ⟨hlive, hrest⟩ := haccess.2 b hb
    exact ⟨fun h => (any_tag_countTick b.pair fun r => (by cases hk : b.tick.kind <;> rfl)).trans (hlive h), hrest⟩

theorem namesLaw_countTick (hnames : NamesLaw s) : NamesLaw (countTick s) := by
  intro k v hv
  rw [Option.mem_def, slots_countTick] at hv
  obtain ⟨w, hw, rfl⟩ := Option.map_eq_some_iff.1 hv
  obtain ⟨hi, hread, hwrite, -⟩ := key_and_names_tick w
  rw [hi, hread, hwrite]
  obtain ⟨hreads, hwrites⟩ := hnames k w hw
  exact ⟨fun t ht => (any_tag_countTick _ fun r => rfl).trans (hreads t ht),
    fun t ht => (any_tag_countTick _ fun r => rfl).trans (hwrites t ht)⟩

theorem writingLaw_countTick (hwriting : WritingLaw s) : WritingLaw (countTick s) := by
  intro i t r hr hkind hposition
  obtain ⟨w, hw, rfl⟩ := mem_tag_countTick hr
  obtain ⟨k, v, hv, hinitiator, hstate, hplace⟩ := hwriting i t w hw hkind hposition
  obtain ⟨hi, -, -, hselect, hgranule, hwritingTick⟩ := key_and_names_tick v
  refine ⟨k, v.tick, ?_, hi.trans hinitiator, hwritingTick t hstate, fun pl hpl => ?_⟩
  · rw [slots_countTick, Option.mem_def.1 hv]
    rfl
  · rw [hselect, hgranule]
    exact hplace pl hpl

theorem bindingLaw_countTick (hbinding : BindingLaw s) : BindingLaw (countTick s) := by
  obtain ⟨hrecords, hentries, hopen⟩ := hbinding
  refine ⟨fun i t r hr e he => ?_, fun e c hc => ?_, fun a ha => ?_⟩
  · obtain ⟨w, hw, rfl⟩ := mem_tag_countTick hr
    obtain ⟨hreads, hposition, hmine⟩ := hrecords i t w hw e he
    refine ⟨hreads, hposition, (any_entries_countTick e fun c => ?_).trans hmine⟩
    rw [(boundTo_tick c).1, (boundTo_tick c).2]
  · rw [Option.mem_def, entries_countTick] at hc
    obtain ⟨b, hb, rfl⟩ := Option.map_eq_some_iff.1 hc
    rw [(boundTo_tick b).1, (boundTo_tick b).2]
    obtain ⟨howner, hfilling⟩ := hentries e b hb
    refine ⟨fun p hp => (any_tag_countTick p fun r => rfl).trans (howner p hp), fun hfill => ?_⟩
    rw [access_countTick, Option.any_map]
    exact hfilling hfill
  · obtain ⟨b, hb, rfl⟩ := Option.map_eq_some_iff.1 ha
    obtain ⟨hown, hrecord⟩ := hopen b hb
    refine ⟨fun e he => ⟨(hown e he).1, (any_entries_countTick e fun c => ?_).trans (hown e he).2⟩, fun hlive r hr => ?_⟩
    · rw [(boundTo_tick c).1, (boundTo_tick c).2]
    · obtain ⟨w, hw, rfl⟩ := mem_tag_countTick hr
      exact hrecord hlive w hw

/-- What a tick counts is no concern of the laws. -/
theorem Lawful.countTick (hs : Lawful s) : Lawful (countTick s) := by
  obtain ⟨hlock, haccess, hnames, hwriting, hbinding⟩ := hs
  exact ⟨lockLaw_countTick hlock, accessLaw_countTick haccess, namesLaw_countTick hnames, writingLaw_countTick hwriting,
    bindingLaw_countTick hbinding⟩

end

end Sys2Proof.Machine
end

section
/-! SUPPORT. A host-link reset, table by table: the records that survive it, the reservations that it keeps, the entries
and the open access; and the laws of the tables after it. -/

namespace Sys2Proof.Machine

section
variable {s t : State}

/-! ## The records (R39) -/

theorem TagRecord.survivor_iff {r : TagRecord} : r.survivor = true ↔
    (r.kind = .write ∨ r.kind = .lockWrite) ∧ r.verdict = .committed ∧ r.position ≠ .done := by
  simp [TagRecord.survivor, TagRecord.writes, and_assoc]

theorem mem_resetRemoves {p : Pair} : p ∈ resetRemoves s ↔ ∃ r, s.tag p = some r ∧ r.survivor = false := by
  simp [resetRemoves, mem_allPairs, Option.any_eq_true]

/-- The record with its response SENT. -/
abbrev TagRecord.markedSent (r : TagRecord) : TagRecord := { r with response := .sent }

theorem tag_markSent (p q : Pair) :
    (markSent p t).tag q = if q = p then (t.tag q).map TagRecord.markedSent else t.tag q := by
  unfold markSent
  by_cases hq : q = p
  · subst hq
    cases hr : t.tag q with
    | none => simp [hr]
    | some r => simp [TagRecord.markedSent]
  · rw [if_neg hq]
    cases t.tag p with
    | none => rfl
    | some r => exact State.tag_setTag_of_ne t hq _

theorem tag_markSent_foldl (l : List Pair) (t : State) (q : Pair) : (l.foldl (fun t p => markSent p t) t).tag q =
    if q ∈ l then (t.tag q).map TagRecord.markedSent else t.tag q := by
  induction l generalizing t with
  | nil => rfl
  | cons p l ih =>
    rw [List.foldl_cons, ih, tag_markSent]
    have htwice : (t.tag q).map (TagRecord.markedSent ∘ TagRecord.markedSent) = (t.tag q).map TagRecord.markedSent := rfl
    by_cases hp : q = p
    · subst hp
      by_cases hl : q ∈ l <;> simp [hl, htwice]
    · simp [hp]

theorem tag_markAll (q : Pair) : (markAll t).tag q = (t.tag q).map TagRecord.markedSent :=
  (tag_markSent_foldl allPairs t q).trans (if_pos (mem_allPairs q))

theorem tag_dropped_foldl (l : List Pair) (t : State) (q : Pair) :
    (l.foldl (fun t p => endAccessOf p (t.setTag p none)) t).tag q = if q ∈ l then none else t.tag q := by
  induction l generalizing t with
  | nil => rfl
  | cons p l ih =>
    rw [List.foldl_cons, ih, tag_endAccessOf, State.tag_setTag]
    by_cases hp : q = p <;> by_cases hl : q ∈ l <;> simp [hp, hl]

theorem tag_resetDropped (q : Pair) : s.resetDropped.tag q = (s.tag q).filter TagRecord.survivor := by
  rw [State.resetDropped, tag_dropped_foldl, tag_allStranded]
  cases hr : s.tag q with
  | none => simp
  | some r =>
    cases hsurvivor : r.survivor with
    | true =>
      rw [if_neg (by simp [mem_resetRemoves, hr, hsurvivor]), Option.filter_some, if_pos hsurvivor]
    | false =>
      rw [if_pos (mem_resetRemoves.2 ⟨r, hr, hsurvivor⟩), Option.filter_some, if_neg (by simp [hsurvivor])]

theorem tag_resetLocks (q : Pair) : (resetLocks t).tag q = t.tag q := rfl

/-- The survivors of a host-link reset have their response SENT; every other record is gone. -/
theorem tag_resetTables (q : Pair) : (resetTables s).tag q =
    ((s.tag q).filter TagRecord.survivor).map TagRecord.markedSent := by
  rw [resetTables_eq, tag_resetLocks, tag_markAll, tag_resetDropped]

/-- A record that is live after a host-link reset is a survivor. -/
theorem survivor_of_resetTables {q : Pair} {w : TagRecord} (hw : (resetTables s).tag q = some w) :
    ∃ r, s.tag q = some r ∧ r.survivor = true ∧ w = r.markedSent := by
  rw [tag_resetTables] at hw
  obtain ⟨r, hr, rfl⟩ := Option.map_eq_some_iff.1 hw
  obtain ⟨hlive, hsurvivor⟩ := Option.filter_eq_some_iff.1 hr
  exact ⟨r, hlive, hsurvivor, rfl⟩

theorem tag_resetTables_of_survivor {q : Pair} {r : TagRecord} (hr : s.tag q = some r) (hsurvivor : r.survivor = true) :
    (resetTables s).tag q = some r.markedSent := by
  rw [tag_resetTables, hr, Option.filter_some, if_pos hsurvivor]
  rfl

/-! ## The reservations (R143) -/

theorem resetReservation_resetLocks (v : Reservation) : resetReservation (resetLocks t) v = resetReservation t v := rfl

theorem lockLost_resetLocks (i : Initiator) : (resetLocks t).lockLost[i] = false := by
  change (Vector.replicate 8 false)[i] = false
  simp

theorem slots_resetTables (k : SlotIx) :
    (resetTables s).slots[k] = (s.slots[k]).bind (resetReservation (resetTables s)) := by
  obtain ⟨_, hmarked⟩ := markAll_only s.resetDropped
  obtain ⟨_, _, _, _, hdropped⟩ := resetDropped_only s
  have hslots : (markAll s.resetDropped).slots = s.slots := by rw [hmarked, hdropped]
  rw [resetTables_eq, slots_resetLocks]
  simp only [hslots]
  exact congrArg _ (funext fun v => (resetReservation_resetLocks v).symm)

theorem lockLost_resetTables (i : Initiator) : (resetTables s).lockLost[i] = false := lockLost_resetLocks i

/-- A reservation stays, less its lock-read record, exactly if it is WRITING for a survivor. -/
theorem resetReservation_of_lawful (hs : Lawful s) {k : SlotIx} {v : Reservation} (hv : s.slots[k] = some v) :
    resetReservation (resetTables s) v = match v.state with
      | .reserved _ => none
      | .writing w =>
        if ((resetTables s).tag ⟨v.initiator, w⟩).isSome then some { v with lockRead := none } else none := by
  obtain ⟨-, -, hnames, -⟩ := hs
  unfold resetReservation
  cases hstate : v.state with
  | reserved n => rfl
  | writing w =>
    obtain ⟨r, hr, hkind⟩ := (Option.any_eq_true _ _).1 ((hnames k v hv).2 w (by rw [hstate]; rfl))
    simp only [Bool.and_eq_true, decide_eq_true_eq] at hkind
    cases hlive : (resetTables s).tag ⟨v.initiator, w⟩ with
    | none => simp [hlive]
    | some x =>
      obtain ⟨y, hy, -, rfl⟩ := survivor_of_resetTables hlive
      obtain rfl := Option.some_inj.1 (hr.symm.trans hy)
      simp [hlive, hkind.1, ← hstate]

/-! ## The entries and the open access (R84, R157) -/

theorem dropped_foldl_withTables (l : List Pair) (t : State) (ts sl rs) : ∃ ts',
    l.foldl (fun t p => endAccessOf p (t.setTag p none)) (t.withTables ts sl rs) =
      (l.foldl (fun t p => endAccessOf p t) t).withTables ts' sl rs := by
  induction l generalizing t ts with
  | nil => exact ⟨ts, rfl⟩
  | cons p l ih =>
    rw [List.foldl_cons, List.foldl_cons]
    obtain ⟨ts', hfree⟩ : ∃ ts', (t.withTables ts sl rs).setTag p none = t.withTables ts' sl rs := ⟨_, rfl⟩
    rw [hfree, endAccessOf_withTables]
    exact ih (endAccessOf p t) ts'

/-- The removal closes the access for the pairs that are gone; it does not matter whether others are among them. -/
theorem closeAccess_congr {gone gone' : Pair → Bool}
    (h : ∀ a ∈ t.access, a.live = true → a.kind = .read → gone a.pair = gone' a.pair) :
    closeAccess gone t = closeAccess gone' t := by
  unfold closeAccess
  cases ha : t.access with
  | none => rfl
  | some a =>
    by_cases hopen : a.live = true ∧ a.kind = .read
    · simp only [h a ha hopen.1 hopen.2]
    · have hsame : endAccessOf a.pair t = t := by
        refine endAccessOf_of_other fun b hb hreach => hopen ?_
        obtain rfl : a = b := Option.some_inj.1 (ha.symm.trans hb)
        exact ⟨hreach.1, hreach.2.2⟩
      simp only [hsame, ite_self]

/-- No read survives a host-link reset, so it leaves the entries and the access as the removal of every record does. -/
theorem left_resetTables (hs : Lawful s) {u : State} (hentries : u.entries = (resetTables s).entries)
    (hcounter : u.strandCounter = (resetTables s).strandCounter) (haccess : u.access = (resetTables s).access) :
    EntriesLeft (fun _ => true) s u ∧ AccessLeft (fun _ => true) s u := by
  obtain ⟨-, ⟨-, hopen⟩, -, -, hbinding⟩ := hs
  obtain ⟨_, hmarked⟩ := markAll_only s.resetDropped
  obtain ⟨_, hfold⟩ := dropped_foldl_withTables (resetRemoves s) (s.allStranded fun _ => true)
    (s.allStranded fun _ => true).tags (s.allStranded fun _ => true).slots (s.allStranded fun _ => true).responses
  have hclosed : (resetRemoves s).foldl (fun t p => endAccessOf p t) (s.allStranded fun _ => true) =
      closeAccess (fun _ => true) (s.allStranded fun _ => true) := by
    rw [endAccessOf_foldl]
    refine closeAccess_congr fun a ha hlive hkind => ?_
    rw [access_allStranded] at ha
    obtain ⟨r, hr, hfits⟩ := (Option.any_eq_true _ _).1 ((hopen a ha).1 hlive)
    rw [hkind] at hfits
    have hreads : r.reads = true := by simpa [fits] using (Bool.and_eq_true_iff.1 hfits).2
    refine List.contains_iff_mem.2 (mem_resetRemoves.2 ⟨r, hr, ?_⟩)
    revert hreads
    cases hkind : r.kind <;> simp [TagRecord.reads, TagRecord.survivor, TagRecord.writes, hkind]
  rw [hclosed] at hfold
  have hdropped : s.resetDropped = _ := hfold
  refine removal_left hbinding (hentries.trans ?_) (hcounter.trans ?_) (haccess.trans ?_)
  all_goals
    rw [resetTables_eq, hmarked, hdropped]
    rfl

/-! ## The laws (R67, R128, R138, R145) -/

section
variable (hs : Lawful s)
include hs

theorem accessLaw_resetTables : AccessLaw (resetTables s) := by
  obtain ⟨-, hleft⟩ := left_resetTables hs (u := resetTables s) rfl rfl rfl
  obtain ⟨-, ⟨hissued, hopen⟩, -⟩ := hs
  refine ⟨fun i t w hw _ _ => ?_, fun a' ha' => ?_⟩
  · obtain ⟨r, -, hsurvivor, rfl⟩ := survivor_of_resetTables hw
    exact (TagRecord.survivor_iff.1 hsurvivor).2.1
  · rw [hleft] at ha'
    obtain ⟨a, ha, hkept⟩ := Option.bind_eq_some_iff.1 ha'
    obtain ⟨hlive, hwrite, hfirst⟩ := hopen a ha
    split at hkept
    · rename_i hreached
      obtain ⟨f, -, rfl⟩ := Option.map_eq_some_iff.1 hkept
      exact ⟨fun h => Bool.noConfusion h, fun h => AccessKind.noConfusion (hreached.2.1.symm.trans h), hfirst⟩
    · rename_i hother
      obtain rfl := Option.some_inj.1 hkept
      refine ⟨fun h => ?_, hwrite, hfirst⟩
      have hkind : a.kind = .write := by
        cases hkind : a.kind with
        | write => rfl
        | read => exact absurd ⟨h, hkind, rfl⟩ hother
      obtain ⟨r, hr, hfits⟩ := (Option.any_eq_true _ _).1 (hlive h)
      simp only [Bool.and_eq_true, decide_eq_true_eq] at hfits
      obtain ⟨hposition, hfit⟩ := hfits
      have hwrites : r.writes = true := by rwa [hkind] at hfit
      have hsurvivor : r.survivor = true := by
        simp [TagRecord.survivor, hwrites, hposition, hissued a.pair.initiator a.pair.tag r hr hwrites hposition]
      rw [tag_resetTables_of_survivor hr hsurvivor, Option.any_some, Bool.and_eq_true]
      exact ⟨decide_eq_true hposition, hfit⟩

omit hs in
theorem namesLaw_resetTables : NamesLaw (resetTables s) := by
  intro k v' hv'
  rw [Option.mem_def, slots_resetTables] at hv'
  obtain ⟨v, -, hkept⟩ := Option.bind_eq_some_iff.1 hv'
  obtain ⟨rfl, t, hstate, hlive⟩ := resetReservation_eq_some hkept
  refine ⟨fun l hl => (by cases hl), fun l hl => ?_⟩
  obtain rfl : t = l := by simpa [hstate, LockState.lockWrite] using hl
  obtain ⟨w, hw, hkind⟩ := (Option.any_eq_true _ _).1 hlive
  obtain ⟨r, -, hsurvivor, rfl⟩ := survivor_of_resetTables hw
  rw [hw, Option.any_some, hkind]
  simpa using (TagRecord.survivor_iff.1 hsurvivor).2.2

theorem writingLaw_resetTables : WritingLaw (resetTables s) := by
  intro i t w hw hkind hposition
  obtain ⟨r, hr, -, rfl⟩ := survivor_of_resetTables hw
  obtain ⟨k, v, hv, rfl, hstate, hplace⟩ := hs.2.2.2.1 i t r hr hkind hposition
  refine ⟨k, { v with lockRead := none }, ?_, rfl, hstate, hplace⟩
  rw [Option.mem_def, slots_resetTables, Option.mem_def.1 hv, Option.bind_some, resetReservation_of_lawful hs hv, hstate]
  simp only [Option.mem_def.1 hw, Option.isSome_some, if_true, ← hstate]

theorem bindingLaw_resetTables : BindingLaw (resetTables s) := by
  obtain ⟨⟨number, hentries, -⟩, hleft⟩ := left_resetTables hs (u := resetTables s) rfl rfl rfl
  obtain ⟨-, -, -, -, hbinding⟩ := hs
  obtain ⟨hrecords, hbound, hopen⟩ := hbinding
  refine ⟨fun i t w hw e he => ?_, fun e c' hc' => ?_, fun a' ha' => ?_⟩
  · obtain ⟨r, hr, hsurvivor, rfl⟩ := survivor_of_resetTables hw
    have hreads := (hrecords i t r hr e he).1
    have hwrites := (TagRecord.survivor_iff.1 hsurvivor).1
    revert hreads
    obtain h | h := hwrites <;> simp [TagRecord.reads, h]
  · rw [Option.mem_def, hentries] at hc'
    obtain ⟨c, hheld, hkept⟩ := Option.bind_eq_some_iff.1 hc'
    obtain ⟨rfl, hunbound⟩ | ⟨b, m, hstate, -, hflight, rfl⟩ | rfl := left_of_entryAfterRemoval hkept
    · refine ⟨fun p hp => absurd (hunbound p hp) (by simp), fun hfilling => ?_⟩
      obtain ⟨a, ha, hentry, hkind, hbinds⟩ := BindingLaw.of_filling ⟨hrecords, hbound, hopen⟩ hheld hfilling
      have hremoved : a.live = false := by
        refine Bool.eq_false_iff.2 fun hlive => ?_
        rw [Access.binds, if_pos hlive] at hbinds
        exact absurd (hunbound a.pair hbinds) (by simp)
      rw [hleft, ha, Option.bind_some, if_neg (by simp [hremoved]), Option.any_some, hentry]
      exact decide_eq_true rfl
    · refine ⟨fun p hp => (by cases hp), fun _ => ?_⟩
      obtain ⟨a, ha, hentry, -⟩ := BindingLaw.of_filling ⟨hrecords, hbound, hopen⟩ hheld
        (by simp [CaptureEntry.isFilling, hstate])
      rw [ha] at hflight
      obtain ⟨f, hf⟩ := Option.isSome_iff_exists.1 hflight
      rw [hleft, ha, Option.bind_some]
      split <;> simp [hf, hentry]
    · exact ⟨fun p hp => (by cases hp), fun hfilling => (by cases hfilling)⟩
  · rw [Option.mem_def, hleft] at ha'
    obtain ⟨a, ha, hkept⟩ := Option.bind_eq_some_iff.1 ha'
    obtain ⟨hentry, -⟩ := hopen a ha
    have hfilling (e : EntryIx) (he : a.entry = some e) : ∃ c m, s.entries[e] = some c ∧ c.state = .filling a.binds m := by
      obtain ⟨c, hheld, hboth⟩ := (Option.any_eq_true _ _).1 (hentry e he).2
      simp only [Bool.and_eq_true, decide_eq_true_eq] at hboth
      obtain ⟨hfilling, hbinds⟩ := hboth
      refine ⟨c, ?_⟩
      revert hfilling hbinds
      cases hstate : c.state <;> simp_all [CaptureEntry.isFilling, EntryState.boundTo]
    split at hkept
    · rename_i hreached
      obtain ⟨f, hf, rfl⟩ := Option.map_eq_some_iff.1 hkept
      refine ⟨fun e he => ⟨hreached.2.1, ?_⟩, fun h => Bool.noConfusion h⟩
      obtain ⟨c, m, hheld, hstate⟩ := hfilling e he
      rw [Access.binds, if_pos hreached.1] at hstate
      rw [hentries, hheld, Option.bind_some]
      simp only [entryAfterRemoval, hstate, Option.any_some, ha, hf, Option.isSome_some, if_true]
      rfl
    · rename_i hother
      obtain rfl := Option.some_inj.1 hkept
      refine ⟨fun e he => ⟨(hentry e he).1, ?_⟩, fun hlive w hw => ?_⟩
      · obtain ⟨c, m, hheld, hstate⟩ := hfilling e he
        have hremoved : ¬a.live = true := fun hlive => hother ⟨hlive, (hentry e he).1, rfl⟩
        rw [Access.binds, if_neg hremoved] at hstate
        rw [hentries, hheld, Option.bind_some, entryAfterRemoval_of_unbound (by simp [hstate, EntryState.boundTo]),
          Option.any_some, Access.binds, if_neg hremoved]
        simp [CaptureEntry.isFilling, EntryState.boundTo, hstate]
      · obtain ⟨r, hr, -, rfl⟩ := survivor_of_resetTables hw
        exact (hopen a ha).2 hlive r hr

theorem Lawful.resetTables : Lawful (resetTables s) :=
  ⟨hs.1.of_closes (closes_resetTables s), accessLaw_resetTables hs, namesLaw_resetTables, writingLaw_resetTables hs,
    bindingLaw_resetTables hs⟩

end

end

end Sys2Proof.Machine
end

section
/-! SUPPORT. Every effect of a command, and with it every step, keeps the laws of the tables. -/

namespace Sys2Proof.Machine

section
variable {c : Instr} {s u : State} {p : Pair} {r : TagRecord}

/-- What a grant takes is WAITING, no UNLOCK, and COMMITTED if it writes (R59). -/
theorem State.eligible_spec (h : s.eligible p = true) (hr : s.tag p = some r) :
    r.position = .waiting ∧ r.kind ≠ .unlock ∧ (r.writes = true → r.verdict = .committed) := by
  obtain ⟨x, pl, hx, -, ⟨hwaiting, hnotUnlock, hverdict, -⟩, -⟩ := State.eligible_iff.1 h
  obtain rfl := Option.some_inj.1 (hr.symm.trans hx)
  refine ⟨hwaiting, hnotUnlock, fun hwrites => ?_⟩
  obtain hcommitted | ⟨hkind, -⟩ | ⟨hkind, -⟩ := hverdict
  · exact hcommitted
  · simp [TagRecord.writes, hkind] at hwrites
  · simp [TagRecord.writes, hkind] at hwrites

theorem tag_abandon (p q : Pair) (r : TagRecord) (s : State) : (abandon p r s).tag q = s.tag q := by
  unfold abandon
  split
  · rfl
  · split <;> rfl

theorem Lawful.abandon (hs : Lawful s) (p : Pair) (r : TagRecord) : Lawful (abandon p r s) := by
  unfold Machine.abandon
  split
  · exact hs
  · split <;> exact hs.respond _

theorem Lawful.strandExpired (hs : Lawful s) {e : EntryIx} {x : CaptureEntry} (hx : s.entries[e] = some x)
    (hstrand : x.isStrand = true) : Lawful (s.setEntry e none) := by
  refine hs.of_loose rfl rfl rfl rfl fun d => ?_
  rw [State.entries_setEntry]
  split
  · rename_i hd
    subst hd
    exact .inr ⟨fun c hc => Option.some_inj.1 (hx.symm.trans hc) ▸ hstrand, fun c hc => (by cases hc)⟩
  · exact .inl rfl

theorem Lawful.completeDrain (hs : Lawful s) : Lawful (completeDrain s) := by
  obtain h | ⟨r, n, -, -, h⟩ := completeDrain_cases s
  · rwa [h]
  · rw [h]
    exact ((hs.of_same (u := { s with apply := .idle }) rfl rfl rfl rfl rfl).makeChange r).raise _

theorem Lawful.issueBeat (hs : Lawful s) {a : Access} (ha : s.access = some a) : Lawful (issueBeat a s) :=
  (hs.setAccess (b := { a with next := a.next + 1, flight := some ⟨a.next, a.limit.toNat⟩ }) ha rfl rfl rfl rfl rfl).of_same
    rfl rfl rfl rfl rfl

theorem Effect.lawful (h : Effect c s u) (hs : Lawful s) : Lawful u := by
  have hlock : LockLaw u := h.widens.lockLaw hs.1
  cases h with
  | reset => exact hs.resetTables.raise _
  | request kind q => exact hs.accept kind q hlock
  | commit p r _ hr => exact hs.commit hr
  | kill p r _ hr hverdict => exact hs.removeOne hr hverdict
  | flush p r _ hr => exact hs.flush p.initiator r.order
  | verdictExpiry p r _ hr _ hverdict =>
    exact ((hs.abandon p r).removeOne ((tag_abandon p p r s).trans hr) hverdict).raise _
  | strandExpiry e x n _ hx hdue => exact (hs.strandExpired hx (by simp [CaptureEntry.isStrand, hdue])).raise _
  | lockBroken k v n cause _ hv hstate => exact hs.breakReservation hv hstate cause
  | ready a f lines _ ha hf => exact hs.beatReady ha f.beat lines
  | failure a f timeout _ ha hf => exact hs.beatFails ha f.beat timeout
  | drained => exact hs.completeDrain
  | grant p r pl _ hidle hfirst hr =>
    obtain ⟨heligible, -⟩ := s.firstInTurn_spec hfirst
    obtain ⟨hwaiting, hkind, hcommitted⟩ := State.eligible_spec heligible hr
    exact hs.grantRecord hr hwaiting hidle hkind hcommitted (grants_grantRecord s p r pl)
  | unlock i p _ hready => exact hs.performUnlock (State.ready_of_readyUnlock hready).2
  | change _ r => exact hs.makeChange r
  | discard => exact hs.discard (fun x hx => (State.mem_entriesWhere _ s x).1 (List.mem_filter.1 hx).1) _

theorem lawful_settles (h : Effect c s u) (hs : Lawful s) : Lawful (settle s u) := (h.lawful hs).settle s

theorem Acts.lawful (h : Acts c s u) (hs : Lawful s) : Lawful u := by
  cases h with
  | powered b => exact lawful_poweredOn b s
  | ticked =>
    exact expireAll_keeps (Expiry.keeps lawful_settles fun _ e _ h => (h.of_same rfl rfl rfl rfl rfl).raise e) _ hs.countTick
  | settles v hv => exact lawful_settles hv hs
  | issues a _ ha => exact hs.issueBeat ha
  | raises e => exact hs.raise e
  | fails h body f => cases f <;> exact hs.of_same rfl rfl rfl rfl rfl
  | stays => exact hs
  | _ => exact hs.of_same rfl rfl rfl rfl rfl

end

/-- Settles O59: each effect of a command moves the tables together, the rest of the event and what waits do not part them. -/
theorem tablesStayLawful : Obligations.TablesStayLawful := fun _ _ hs hstep =>
  step_keeps Acts.lawful (fun h => h.of_same rfl rfl rfl rfl rfl) hstep hs

end Sys2Proof.Machine
end

section
/-! SUPPORT. The strobes that a command drives (R112, R138, R145). -/

namespace Sys2Proof.Machine

/-- One strobe is driven between the two states, on the select of the access that is then open; a write strobe only for a
live record that writes, is ISSUED and COMMITTED. -/
def Drives (s u : State) : Prop :=
  ∃ (b : Strobe) (a : Access), u.strobes = s.strobes ++ [b] ∧ u.access = some a ∧ b.select = a.place.select ∧
    (b.write = true → ∃ r, u.tag a.pair = some r ∧ r.writes = true ∧ r.verdict = .committed ∧ r.position = .issued)

section
variable {c : Instr} {s u : State} {p : Pair} {r x : TagRecord} {pl : Place}

/-- The opening of an access drives its first strobe. -/
theorem drives_openAccess {first : Nat} {e : Option EntryIx} (hx : u.tag p = some x) (hstrobes : u.strobes = s.strobes)
    (hposition : x.position = .issued) (hwrites : x.reads = false → x.writes = true ∧ x.verdict = .committed) :
    Drives s (openAccess p x pl first e u) := by
  rw [openAccess_eq hx]
  refine ⟨firstStrobe x pl first, firstAccess u p x pl first e, by rw [hstrobes], rfl, rfl, fun hwrite => ?_⟩
  have hnotRead : x.reads = false := by simpa [firstStrobe] using hwrite
  exact ⟨x, hx, (hwrites hnotRead).1, (hwrites hnotRead).2, hposition⟩

theorem strobes_consumed (l : List Taken) : (consumeAll l (s.granted p r)).strobes = s.strobes := by
  obtain ⟨_, h⟩ := consumeAll_only (s.granted p r) l
  rw [h]
  rfl

/-- A grant that opens an access drives one strobe, and one that answers its read drives none. -/
theorem Grants.drives (h : Grants p r pl s u) (hkind : r.kind ≠ .unlock)
    (hcommitted : r.writes = true → r.verdict = .committed) :
    u.strobes = s.strobes ∨ Drives s u := by
  have hwrites : r.reads = false → r.writes = true ∧ r.verdict = .committed := by
    intro hreads
    have h : r.writes = true := by
      revert hreads hkind
      cases hk : r.kind <;> simp [TagRecord.reads, TagRecord.writes, hk]
    exact ⟨h, hcommitted h⟩
  have served {w : State} {y : TagRecord} {beats : List Word} (hw : w.strobes = s.strobes) :
      (servedWholly p y beats w).strobes = s.strobes := by
    obtain ⟨_, _, _, _, h⟩ := servedWholly_only w p y beats
    rw [h]
    exact hw
  cases h with
  | opens => exact .inr (drives_openAccess (State.tag_setTag_self ..) rfl rfl hwrites)
  | refuses =>
    obtain ⟨_, _, _, _, _, _, h⟩ := refuseMismatch_only (s.granted p r) p { r with position := .issued } pl
      (s.conflicts pl r.size r.count)
    rw [h]
    exact .inl rfl
  | served v _ _ hv => exact .inl (served (hv ▸ strobes_consumed _))
  | full v _ _ hv => exact .inl (hv ▸ strobes_consumed _)
  | captures v e _ _ hv =>
    have hstrobes : v.strobes = s.strobes := hv ▸ strobes_consumed _
    exact .inl (served hstrobes)
  | fills v e _ _ hv =>
    have hstrobes : v.strobes = s.strobes := hv ▸ strobes_consumed _
    exact .inr (drives_openAccess (State.tag_setTag_self ..) hstrobes rfl hwrites)

/-- No own effect but a grant's drives a strobe. -/
theorem Effect.drives (h : Effect c s u) : u.strobes = s.strobes ∨ c = .grant ∧ Drives s u := by
  cases h with
  | reset =>
    obtain ⟨_, _, _, _, _, _, h⟩ := resetTables_only s
    rw [h]
    exact .inl rfl
  | request kind q =>
    obtain ⟨_, _, _, _, _, _, _, h⟩ := accept_only s kind q
    rw [h]
    exact .inl rfl
  | commit p r =>
    obtain ⟨_, _, _, h⟩ := releaseIfFinished_only p (s.setTag p (some r.madeCommitted))
    rw [h]
    exact .inl rfl
  | kill p =>
    obtain ⟨_, _, _, _, _, _, h⟩ := removeRecords_only [p] s
    rw [h]
    exact .inl rfl
  | flush p r =>
    obtain ⟨_, _, _, _, _, _, h⟩ := removeRecords_only (flushed p.initiator r.order s) s
    rw [h]
    exact .inl rfl
  | verdictExpiry p r =>
    obtain ⟨_, habandon⟩ := abandon_only p r s
    obtain ⟨_, _, _, _, _, _, h⟩ := removeRecords_only [p] (abandon p r s)
    rw [h, habandon]
    exact .inl rfl
  | strandExpiry => exact .inl rfl
  | lockBroken k v n cause =>
    obtain ⟨_, _, _, _, _, h⟩ := breakReservation_only k v cause s
    rw [h]
    exact .inl rfl
  | ready a f lines =>
    obtain ⟨_, _, _, _, _, _, _, _, h⟩ := beatReady_only s a f.beat lines
    rw [h]
    exact .inl rfl
  | failure a f timeout =>
    obtain ⟨_, _, _, _, _, _, _, _, h⟩ := beatFails_changes s a f.beat timeout
    rw [h]
    exact .inl rfl
  | drained =>
    obtain ⟨_, _, _, _, _, h⟩ := completeDrain_only s
    rw [h]
    exact .inl rfl
  | grant p r pl hc hidle hfirst hr =>
    obtain ⟨heligible, -⟩ := s.firstInTurn_spec hfirst
    obtain ⟨-, hkind, hcommitted⟩ := State.eligible_spec heligible hr
    exact ((grants_grantRecord s p r pl).drives hkind hcommitted).imp_right fun hdrives => ⟨hc, hdrives⟩
  | unlock i p =>
    obtain ⟨_, _, _, _, _, h⟩ := performUnlock_only p s
    rw [h]
    exact .inl rfl
  | change index r =>
    obtain ⟨_, _, _, _, h⟩ := makeChange_only r s
    rw [h]
    exact .inl rfl
  | discard scope region select address =>
    obtain ⟨_, _, _, h⟩ := discard_only (s.strandsInScope scope region select address)
      (scopeEvent scope region select address) s
    rw [h]
    exact .inl rfl

theorem strobes_settle (s u : State) : (settle s u).strobes = u.strobes := by
  obtain ⟨_, _, _, _, _, _, _, _, _, _, h⟩ := settle_only s u
  rw [h]

theorem access_settle (s u : State) : (settle s u).access = u.access := by
  obtain ⟨_, _, _, _, _, _, _, _, _, _, h⟩ := settle_only s u
  rw [h]

/-- The rest of an event drives no strobe, and leaves the access and the records that write. -/
theorem Drives.settle (h : Drives s u) (b : State) : Drives s (settle b u) := by
  obtain ⟨strobe, a, hstrobes, haccess, hselect, hwrite⟩ := h
  refine ⟨strobe, a, (strobes_settle b u).trans hstrobes, (access_settle b u).trans haccess, hselect, fun hw => ?_⟩
  obtain ⟨r, hr, hwrites, hcommitted⟩ := hwrite hw
  refine ⟨r, ?_, hwrites, hcommitted⟩
  obtain hsame | ⟨-, x, hx, hunlock, -⟩ := tag_settle b u a.pair
  · rw [hsame, hr]
  · obtain rfl := Option.some_inj.1 (hr.symm.trans hx)
    simp [TagRecord.writes, hunlock] at hwrites

/-- The issue of a beat drives a write strobe only for the access's own record, which is ISSUED. -/
theorem drives_issueBeat (hlaw : AccessLaw s) {a : Access} (ha : s.access = some a) : Drives s (issueBeat a s) := by
  obtain ⟨hissued, hopen⟩ := hlaw
  obtain ⟨hlive, hwrite, -⟩ := hopen a ha
  refine ⟨beatStrobe a a.next s, { a with next := a.next + 1, flight := some ⟨a.next, a.limit.toNat⟩ }, rfl, rfl, rfl,
    fun hw => ?_⟩
  have hkind : a.kind = .write := of_decide_eq_true hw
  obtain ⟨r, hr, hfits⟩ := (Option.any_eq_true _ _).1 (hlive (hwrite hkind))
  simp only [Bool.and_eq_true, decide_eq_true_eq, hkind] at hfits
  obtain ⟨hposition, hwrites⟩ := hfits
  exact ⟨r, hr, hwrites, hissued a.pair.initiator a.pair.tag r hr hwrites hposition, hposition⟩

/-- A tick drives no strobe: no expiry is a grant or a beat issue. -/
theorem strobes_expireAll (Ts : List Timer) (s : State) : (expireAll Ts s).strobes = s.strobes :=
  expireAll_keeps (P := fun u => u.strobes = s.strobes) (fun {T v u} h hv => by
    cases h with
    | stays => exact hv
    | settles w hw =>
      refine (strobes_settle v w).trans ?_
      obtain hsame | ⟨hgrant, -⟩ := hw.drives
      · exact hsame.trans hv
      · cases T <;> cases hgrant
    | drain r e => exact hv) Ts rfl

theorem Acts.drives (h : Acts c s u) (hlaw : AccessLaw s) :
    u.strobes = s.strobes ∨ (c = .grant ∨ c = .beatIssue) ∧ Drives s u := by
  cases h with
  | ticked => exact .inl (strobes_expireAll _ _)
  | settles v hv =>
    obtain hsame | ⟨hgrant, hdrives⟩ := hv.drives
    · exact .inl ((strobes_settle s v).trans hsame)
    · exact .inr ⟨.inl hgrant, hdrives.settle s⟩
  | issues a hc ha => exact .inr ⟨.inr hc, drives_issueBeat hlaw ha⟩
  | fails h body f => cases f <;> exact .inl rfl
  | _ => exact .inl rfl

end

/-- Settles O43: only the opening of an access and the issue of a beat drive a strobe. What they write is COMMITTED by the
eligibility of the grant and the access law, and a LOCK-WRITE's reservation stands by the law of the tables after the step. -/
theorem onlyCommittedWritesReachTheTarget : Obligations.OnlyCommittedWritesReachTheTarget := by
  intro c s t hlaw hexec
  obtain ⟨w, port, hacts, rfl, -⟩ := exec_does hexec
  refine (hacts.drives hlaw).imp_right ?_
  rintro ⟨hc, b, a, hstrobes, haccess, hselect, hwrite⟩
  refine ⟨b, a, hstrobes, hc, haccess, hselect, fun hw => ?_⟩
  obtain ⟨r, hr, hwrites, hcommitted, hposition⟩ := hwrite hw
  refine ⟨r, hr, by simpa [TagRecord.writes] using hwrites, hcommitted, fun hs hkind => ?_⟩
  obtain ⟨-, -, -, hwriting, -⟩ := hacts.lawful hs
  obtain ⟨k, v, hv, hholder⟩ := hwriting a.pair.initiator a.pair.tag r hr hkind (by simp [hposition])
  exact ⟨k, v, hv, hholder⟩

end Sys2Proof.Machine
end

section
/-! SUPPORT. A host-link reset: what it counts, and that the rest of its event finds no UNLOCK to perform and no read that
stalls. -/

namespace Sys2Proof.Machine

section
variable {s : State}

/-! ## The counts of HOST_RESET (R40) -/

/-- Records that do not survive are counted initiator by initiator. -/
theorem removedCount_eq_sum {f g : TagRecord → Bool} (hsame : ∀ r, f r = g r) (hgone : ∀ r, f r = true → r.survivor = false) :
    removedCount s f = ((List.finRange 8).map fun i : Initiator =>
      (List.finRange 16).countP fun t : Tag => (s.tag ⟨i, t⟩).any fun r => r.place.isSome && g r).sum := by
  have hremoved (p : Pair) : (((s.tag p).any fun r => r.place.isSome && f r) && ((s.tag p).any fun r => !r.survivor)) =
      (s.tag p).any fun r => r.place.isSome && g r := by
    cases s.tag p with
    | none => rfl
    | some r =>
      simp only [Option.any_some, ← hsame]
      cases hf : f r with
      | false => simp
      | true => simp [hgone r hf]
  simp only [removedCount, resetRemoves, List.countP_filter, hremoved, allPairs, List.countP_flatMap, List.countP_map,
    Function.comp_def]

theorem not_survivor_of_reads {r : TagRecord} (h : r.reads = true) : r.survivor = false := by
  revert h
  cases hkind : r.kind <;> simp [TagRecord.reads, TagRecord.survivor, TagRecord.writes, hkind]

/-! ## The rest of the event -/

theorem exec_hostLinkReset (s : State) :
    exec .hostLinkReset s = .next (settle s ((resetTables s).raise (hostResetEvent s))) := rfl

/-- Where every live record writes, the rest of an event completes a drain that is due, and moves the latch. -/
theorem settle_of_writes {u : State} (hu : ∀ (p : Pair) (w : TagRecord), u.tag p = some w → w.writes = true) :
    settle s u = followLatch s (completeDrain u) := by
  have hnone (i : Initiator) : u.readyUnlock i = none := by
    refine State.readyUnlock_eq_none_iff.2 fun p _ => ?_
    rintro ⟨w, hw, hkind, -⟩
    have hwrites := hu p w hw
    simp [TagRecord.writes, hkind] at hwrites
  rw [settle, performUnlocks_of_none_ready hnone]

/-- With no drain in progress, too, the latch alone follows, silently: no read is stalled. -/
theorem settle_of_idle_writes {u : State} (hu : ∀ (p : Pair) (w : TagRecord), u.tag p = some w → w.writes = true)
    (hidle : u.apply = .idle) : ∃ l, settle s u = { u with latch := l } := by
  have hnotStalled (p : Pair) : u.stalled p = false := by
    refine State.stalled_eq_false_of_unguarded fun w hw pl _ => ?_
    have hwrites := hu p w hw
    revert hwrites
    cases hkind : w.kind <;> simp [TagRecord.guarded, TagRecord.reads, TagRecord.writes, hkind]
  rw [settle_of_writes hu, completeDrain_of_not_due (by simp [State.drainDue, hidle]),
    followLatch_of_no_new_stall (.inr fun p hp => absurd hp (by simp [hnotStalled]))]
  exact ⟨_, rfl⟩

/-- What the rest of an event changes where every live record writes. -/
theorem settle_of_writes_only {u : State} (hu : ∀ (p : Pair) (w : TagRecord), u.tag p = some w → w.writes = true) :
    ∃ a g es q o l, settle s u = { u with apply := a, regions := g, entries := es, events := q, overflow := o, latch := l } := by
  obtain ⟨_, _, _, _, _, hdrain⟩ := completeDrain_only u
  obtain ⟨_, _, _, hlatch⟩ := followLatch_only s (completeDrain u)
  rw [settle_of_writes hu, hlatch, hdrain]
  exact ⟨_, _, _, _, _, _, rfl⟩

/-- What is left after a host-link reset writes. -/
theorem writes_resetTables (p : Pair) (w : TagRecord) (hw : (resetTables s).tag p = some w) : w.writes = true := by
  obtain ⟨r, -, hsurvivor, rfl⟩ := survivor_of_resetTables hw
  obtain ⟨hwrites, -⟩ := TagRecord.survivor_iff.1 hsurvivor
  simpa [TagRecord.writes] using hwrites

end

/-- Settles O53: the reset's own tables, and the rest of its event, which performs no UNLOCK. -/
theorem hostLinkResetSparesCommittedWrites : Obligations.HostLinkResetSparesCommittedWrites := by
  intro s hs number reads event
  have hevent : hostResetEvent s = event := by
    have hwrites := removedCount_eq_sum (s := s)
      (f := fun r => r.writes && decide (r.verdict = .none))
      (g := fun r => decide (r.kind = .write ∨ r.kind = .lockWrite) && decide (r.verdict = .none))
      (fun r => by simp [TagRecord.writes]) fun r h => by
        simp only [Bool.and_eq_true, decide_eq_true_eq] at h
        simp [TagRecord.survivor, h.2]
    have hreads := removedCount_eq_sum (s := s) (f := fun r => r.reads) (g := reads) reads_eq
      fun r => not_survivor_of_reads
    have hbound := removedCount_eq_sum (s := s) (f := fun r => r.reads && r.entry.isSome)
      (g := fun r => reads r && r.entry.isSome) (fun r => by rw [reads_eq])
      fun r h => not_survivor_of_reads (Bool.and_eq_true_iff.1 h).1
    simp only [hostResetEvent, count16, hwrites, hreads, hbound]
    rfl
  have hexec : exec .hostLinkReset s = .next (settle s ((resetTables s).raise event)) :=
    hevent ▸ exec_hostLinkReset s
  have htag (p : Pair) := tag_resetTables (s := s) p
  have hslots (k : SlotIx) : (resetTables s).slots[k] = (s.slots[k]).bind fun v => match v.state with
      | .reserved _ => none
      | .writing w => if ((resetTables s).tag ⟨v.initiator, w⟩).isSome then some { v with lockRead := none } else none := by
    rw [slots_resetTables]
    exact Option.bind_congr fun v hv => resetReservation_of_lawful hs hv
  have hflags (i : Initiator) := lockLost_resetTables (s := s) i
  obtain ⟨hentriesLeft, haccessLeft⟩ := left_resetTables hs (u := resetTables s) rfl rfl rfl
  have hwrites := writes_resetTables (s := s)
  obtain ⟨ts, es, n, ac, sl, ll, honly⟩ := resetTables_only s
  generalize resetTables s = u at *
  have hwritesRaised : ∀ (p : Pair) (w : TagRecord), (u.raise event).tag p = some w → w.writes = true := hwrites
  have hafter := settle_of_idle_writes (s := s) hwritesRaised
  obtain ⟨a, g, es', q, o, l, hsettle⟩ := settle_of_writes_only (s := s) hwritesRaised
  rw [hsettle] at hexec hafter
  refine ⟨_, u, hexec, hsettle.symm, fun p => ?_, hslots, hflags, ?_⟩
  · refine (htag p).trans ?_
    cases s.tag p with
    | none => rfl
    | some r =>
      rw [Option.filter_some, Option.bind_some]
      by_cases hsurvivor : r.survivor = true
      · rw [if_pos hsurvivor, if_pos (TagRecord.survivor_iff.1 hsurvivor)]
        rfl
      · rw [if_neg hsurvivor, if_neg (mt TagRecord.survivor_iff.2 hsurvivor)]
        rfl
  · have hopen : ∀ a ∈ s.access, a.kind = .write → u.access = some a := by
      intro a ha hkind
      rw [haccessLeft, Option.mem_def.1 ha, Option.bind_some, if_neg (by simp [hkind])]
    clear htag hslots hflags hwrites hwritesRaised hs hevent
    subst honly
    refine ⟨rfl, rfl, rfl, rfl, rfl, rfl, rfl, rfl, rfl, rfl, rfl, hopen, haccessLeft, hentriesLeft, fun hidle => ?_, rfl⟩
    obtain ⟨l', hsame⟩ := hafter hidle
    have hentries := congrArg State.entries hsame
    have hevents := congrArg State.events hsame
    exact ⟨hentries, rfl, hevents⟩

end Sys2Proof.Machine
end

section
/-! SUPPORT. What the verdicts and the verdict timers leave: COMMITTED WRITEs, the beats of the entries, and all that a FLUSH
does not reach. -/

namespace Sys2Proof.Machine

/-! ## What the rest of an event leaves of a lawful state (R14, R141) -/

section
variable {s u x : State} {p : Pair}

/-- The performing of a ready UNLOCK moves its record, the reservation and flag of its initiator, and what is sent. -/
theorem performUnlock_only_tables (hx : Lawful x) (hready : x.Ready p) : ∃ ts sl ll status, performUnlock p x =
    { x with tags := ts, slots := sl, lockLost := ll, responses := x.responses ++ [.ack p status] } := by
  obtain ⟨sl, ll, h⟩ := unlockEffect_only p.initiator x
  rw [performUnlock_of_lawful hx hready, h]
  exact ⟨_, _, _, _, rfl⟩

/-- Of the reservations it frees at most a RESERVED one of its initiator. -/
theorem slots_performUnlock (hx : Lawful x) (hready : x.Ready p) (k : SlotIx) :
    (performUnlock p x).slots[k] = x.slots[k] ∨ (performUnlock p x).slots[k] = none ∧
      ∃ v ∈ x.slots[k], (∃ n : Nat, v.state = .reserved n) ∧ v.initiator = p.initiator := by
  by_cases hheld : ∃ (l : SlotIx) (v : Reservation), x.slots[l] = some v ∧ v.initiator = p.initiator
  · obtain ⟨l, v, hslot, hmine⟩ := hheld
    cases hstate : v.state with
    | reserved n =>
      rw [performUnlock_of_reserved hx hready rfl hslot hmine hstate, State.respond_slots, State.slots_setSlot]
      split
      · rename_i hk
        subst hk
        exact .inr ⟨rfl, v, hslot, ⟨n, hstate⟩, hmine⟩
      · exact .inl rfl
    | writing t =>
      rw [performUnlock_of_writing hx hready rfl hslot hmine hstate]
      exact .inl rfl
  · push Not at hheld
    rw [performUnlock_of_none_held hx hready rfl fun l v hv => hheld l v hv]
    exact .inl rfl

/-- What the rest of an event makes of the records, the reservations and the responses of a lawful state: UNLOCKs have been
performed and answered, and only where one was ready. -/
structure Follows (u x : State) : Prop where
  lawful : Lawful x
  sent : u.responses <+: x.responses
  tags : ∀ q : Pair, x.tag q = u.tag q ∨ x.tag q = none ∧ ∃ status, Response.ack q status ∈ x.responses
  others : ∀ i : Initiator, u.readyUnlock i = none → ∀ t : Tag, x.tag ⟨i, t⟩ = u.tag ⟨i, t⟩
  slots : ∀ k : SlotIx, x.slots[k] = u.slots[k] ∨ x.slots[k] = none ∧
    ∃ v ∈ u.slots[k], (∃ n : Nat, v.state = .reserved n) ∧ (u.readyUnlock v.initiator).isSome = true

theorem Follows.performUnlock (h : Follows u x) (hready : x.Ready p) : Follows u (performUnlock p x) := by
  obtain ⟨hx, hsent, htags, hothers, hslots⟩ := h
  have hnow : (u.readyUnlock p.initiator).isSome = true := by
    by_contra hnone
    rw [Bool.not_eq_true, Option.isSome_eq_false_iff, Option.isNone_iff_eq_none] at hnone
    have hsame := (State.readyUnlock_congr (hothers p.initiator hnone)).trans hnone
    exact State.readyUnlock_eq_none_iff.1 hsame p rfl hready
  have hresponses : ∃ status, (Machine.performUnlock p x).responses = x.responses ++ [.ack p status] := by
    obtain ⟨_, _, _, status, h⟩ := performUnlock_only_tables hx hready
    exact ⟨status, by rw [h]⟩
  obtain ⟨status, hresponses⟩ := hresponses
  refine ⟨hx.performUnlock hready, hsent.trans (hresponses ▸ List.prefix_append _ _), fun q => ?_, fun i hi t => ?_, fun k => ?_⟩
  · rw [tag_performUnlock hready, hresponses]
    split
    · rename_i hq
      subst hq
      exact .inr ⟨rfl, status, List.mem_append_right _ (List.mem_singleton_self _)⟩
    · exact (htags q).imp_right fun ⟨hgone, status, hack⟩ => ⟨hgone, status, List.mem_append_left _ hack⟩
  · rw [tag_performUnlock hready, if_neg, hothers i hi t]
    rintro rfl
    rw [hi] at hnow
    cases hnow
  · obtain hsame | ⟨hfree, v, hv, hreserved, hmine⟩ := slots_performUnlock hx hready k
    · rw [hsame]
      exact hslots k
    · refine .inr ⟨hfree, v, ?_, hreserved, hmine ▸ hnow⟩
      obtain hbefore | ⟨hnone, -⟩ := hslots k
      · rwa [← hbefore]
      · rw [hnone] at hv
        cases hv

theorem follows_settle (hu : Lawful u) (s : State) : Follows u (settle s u) := by
  refine settle_keeps (P := Follows u) (fun x p hready hx => hx.performUnlock hready) (fun x r n _ _ hx => ?_)
    (fun x q o l hx => ?_) s ⟨hu, List.prefix_rfl, fun _ => .inl rfl, fun _ _ _ => rfl, fun _ => .inl rfl⟩
  · obtain ⟨hlawful, hsent, htags, hothers, hslots⟩ := hx
    have hchanged := ((hlawful.of_same (u := { x with apply := .idle }) rfl rfl rfl rfl rfl).makeChange r).raise
      { kind := .applyDone, region := r }
    obtain ⟨_, _, _, _, hchange⟩ := makeChange_only r { x with apply := .idle }
    rw [hchange] at hchanged ⊢
    exact ⟨hchanged, hsent, htags, hothers, hslots⟩
  · obtain ⟨hlawful, hsent, htags, hothers, hslots⟩ := hx
    exact ⟨hlawful.of_same rfl rfl rfl rfl rfl, hsent, htags, hothers, hslots⟩

/-- With no drain in progress the rest of an event leaves the entries of a lawful state. -/
theorem entries_settle_of_idle (hu : Lawful u) (hidle : u.apply = .idle) (s : State) : (settle s u).entries = u.entries := by
  have h : Lawful (settle s u) ∧ (settle s u).apply = .idle ∧ (settle s u).entries = u.entries :=
    settle_keeps (P := fun x => Lawful x ∧ x.apply = .idle ∧ x.entries = u.entries) (fun x p hready hx => by
      obtain ⟨hlawful, happly, hentries⟩ := hx
      have hperformed := hlawful.performUnlock hready
      obtain ⟨_, _, _, _, h⟩ := performUnlock_only_tables hlawful hready
      rw [h] at hperformed ⊢
      exact ⟨hperformed, happly, hentries⟩)
      (fun x r n hdrain _ hx => absurd (hdrain.symm.trans hx.2.1) (by simp))
      (fun x q o l hx => ⟨hx.1.of_same rfl rfl rfl rfl rfl, hx.2⟩) s ⟨hu, hidle, rfl⟩
  exact h.2.2

end

/-! ## The verdicts and the verdict timers, case by case -/

section
variable {s t : State} {p : Pair}

/-- A COMMIT of a pair that is free or COMMITTED only raises an event. -/
theorem exec_commit_cases (h : exec (.commit p) s = .next t) : (∃ e, t = s.raise e) ∨ ∃ r, s.tag p = some r ∧
    r.verdict = .none ∧ t = settle s (releaseIfFinished p (s.setTag p (some r.madeCommitted))) := by
  change execCommit p s = _ at h
  unfold execCommit at h
  split at h
  · exact .inl ⟨_, (Host.Outcome.next.inj h).symm⟩
  · rename_i r hr
    split at h
    · exact .inl ⟨_, (Host.Outcome.next.inj h).symm⟩
    · rename_i hverdict
      exact .inr ⟨r, hr, hverdict, (Host.Outcome.next.inj h).symm⟩

theorem exec_kill_cases (h : exec (.kill p) s = .next t) : (∃ e, t = s.raise e) ∨ ∃ r, s.tag p = some r ∧
    r.verdict = .none ∧ t = settle s (removeRecords [p] s) := by
  change execKill p s = _ at h
  unfold execKill at h
  split at h
  · exact .inl ⟨_, (Host.Outcome.next.inj h).symm⟩
  · rename_i r hr
    split at h
    · exact .inl ⟨_, (Host.Outcome.next.inj h).symm⟩
    · rename_i hverdict
      exact .inr ⟨r, hr, hverdict, (Host.Outcome.next.inj h).symm⟩

theorem exec_flush_of_live {r : TagRecord} (hr : s.tag p = some r) :
    exec (.flush p) s = .next (settle s (removeRecords (flushed p.initiator r.order s) s)) := by
  change execFlush p s = _
  simp only [execFlush, hr]

theorem exec_flush_cases (h : exec (.flush p) s = .next t) : (∃ e, t = s.raise e) ∨ ∃ r, s.tag p = some r ∧
    t = settle s (removeRecords (flushed p.initiator r.order s) s) := by
  cases hr : s.tag p with
  | none =>
    have hexec : exec (.flush p) s = .next (s.raise (verdictEvent .verdictUnknown p 7)) := by
      change execFlush p s = _
      simp only [execFlush, hr]
    exact .inl ⟨_, Host.Outcome.next.inj (h.symm.trans hexec)⟩
  | some r => exact .inr ⟨r, rfl, Host.Outcome.next.inj (h.symm.trans (exec_flush_of_live hr))⟩

theorem exec_verdictTimerExpiry_cases (h : exec (.verdictTimerExpiry p) s = .next t) : t = s ∨ ∃ r, s.tag p = some r ∧
    r.verdict = .none ∧ t = settle s ((removeRecords [p] (abandon p r s)).raise (timeoutEvent p r)) := by
  obtain rfl : expireVerdict p s = t := Host.Outcome.next.inj h
  unfold expireVerdict
  split
  · exact .inl rfl
  · rename_i r hr
    split
    · rename_i hdue
      exact .inr ⟨r, hr, hdue.2, rfl⟩
    · exact .inl rfl

/-- What a KILL, a FLUSH or a verdict timer does: nothing to the tables, or the removal of uncommitted records from a state of
the same tables. -/
inductive Throws (s : State) : State → Prop
  | nothing (t : State) (htags : t.tags = s.tags) (hentries : t.entries = s.entries) : Throws s t
  | removes (gone : Pair → Bool) (v x u : State) (hv : Lawful v) (htags : ∀ q, v.tag q = s.tag q)
    (hentries : v.entries = s.entries) (happly : v.apply = s.apply) (hremoves : Removes gone v x)
    (hgone : ∀ q, gone q = true → ∀ r ∈ s.tag q, r.verdict = .none) (hu : ∃ e, u = x ∨ u = x.raise e) : Throws s (settle s u)

theorem throws_of_raise (h : ∃ e, t = s.raise e) : Throws s t := by
  obtain ⟨e, rfl⟩ := h
  exact .nothing _ rfl rfl

theorem uncommitted_of_one {r : TagRecord} (hr : s.tag p = some r) (hverdict : r.verdict = .none) (q : Pair)
    (hq : decide (q = p) = true) : ∀ w ∈ s.tag q, w.verdict = .none := by
  obtain rfl := of_decide_eq_true hq
  intro w hw
  rwa [← Option.some_inj.1 (hr.symm.trans hw)]

theorem uncommitted_of_flushed {i : Initiator} {order : Nat} (q : Pair) (hq : (flushed i order s).contains q = true) :
    ∀ w ∈ s.tag q, w.verdict = .none := by
  obtain ⟨-, x, hx, hverdict, -⟩ := mem_flushed.1 (List.contains_iff_mem.1 hq)
  intro w hw
  rwa [← Option.some_inj.1 (hx.symm.trans hw)]

/-- A KILL, a FLUSH and a verdict timer throw records away. -/
theorem throws_of_exec (hs : Lawful s)
    (h : exec (.kill p) s = .next t ∨ exec (.flush p) s = .next t ∨ exec (.verdictTimerExpiry p) s = .next t) :
    Throws s t := by
  have halive (r : TagRecord) : (abandon p r s).entries = s.entries ∧ (abandon p r s).apply = s.apply := by
    obtain ⟨_, h⟩ := abandon_only p r s
    rw [h]
    exact ⟨rfl, rfl⟩
  obtain h | h | h := h
  · obtain hraise | ⟨r, hr, hverdict, rfl⟩ := exec_kill_cases h
    · exact throws_of_raise hraise
    · exact .removes _ s _ _ hs (fun _ => rfl) rfl rfl (removes_one hs hr hverdict) (uncommitted_of_one hr hverdict)
        ⟨timeoutEvent p r, .inl rfl⟩
  · obtain hraise | ⟨r, hr, rfl⟩ := exec_flush_cases h
    · exact throws_of_raise hraise
    · exact .removes _ s _ _ hs (fun _ => rfl) rfl rfl (removes_flushed hs p.initiator r.order) uncommitted_of_flushed
        ⟨timeoutEvent p r, .inl rfl⟩
  · obtain rfl | ⟨r, hr, hverdict, rfl⟩ := exec_verdictTimerExpiry_cases h
    · exact .nothing _ rfl rfl
    · have hlive : (abandon p r s).tag p = some r := (tag_abandon p p r s).trans hr
      exact .removes _ _ _ _ (hs.abandon p r) (fun q => tag_abandon p q r s) (halive r).1 (halive r).2
        (removes_one (hs.abandon p r) hlive hverdict) (uncommitted_of_one hr hverdict) ⟨_, .inr rfl⟩

/-- A record that is no UNLOCK is as the event's own effect left it. -/
theorem tag_settle_of_not_unlock {u : State} {q : Pair} {w : TagRecord} (hw : u.tag q = some w) (hkind : w.kind ≠ .unlock) :
    (settle s u).tag q = some w := by
  obtain hsame | ⟨-, y, hy, hunlock, -⟩ := tag_settle s u q
  · rw [hsame, hw]
  · obtain rfl := Option.some_inj.1 (hw.symm.trans hy)
    exact absurd hunlock hkind

end

/-- Settles O22: removals take uncommitted records alone, a COMMIT of another pair leaves the record, and a COMMITTED WRITE is
no LOCK-WRITE that loses its LOCK-READ, nor an UNLOCK. -/
theorem committedWritesStay : Obligations.CommittedWritesStay := by
  intro q p w s t hs hw hkind hcommitted h
  obtain h | h := h
  · obtain ⟨e, rfl⟩ | ⟨r, hr, hverdict, rfl⟩ := exec_commit_cases h
    · exact hw
    · have hother : q ≠ p := by
        rintro rfl
        rw [Option.some_inj.1 (hw.symm.trans hr), hverdict] at hcommitted
        cases hcommitted
      refine tag_settle_of_not_unlock ?_ (by simp [hkind])
      rw [tag_releaseIfFinished_of_ne hother, State.tag_setTag_of_ne s hother, hw]
  · cases throws_of_exec hs h with
    | nothing _ htags => rw [State.tag_congr htags, hw]
    | removes gone v x u hv htags _ _ hremoves hgone hu =>
      have hkept : gone q = false := by
        refine Bool.eq_false_iff.2 fun hq => ?_
        rw [hgone q hq w hw] at hcommitted
        cases hcommitted
      have hx : x.tag q = some w := hremoves.tag_kept hv hkept ((htags q).trans hw) (by simp [hkind])
      refine tag_settle_of_not_unlock ?_ (by simp [hkind])
      obtain ⟨e, rfl | rfl⟩ := hu
      · exact hx
      · exact hx

/-- What a removal leaves of the entries holds the beats that they held. -/
theorem beats_of_entriesLeft {gone : Pair → Bool} {s u : State} (h : EntriesLeft gone s u) (e : EntryIx) :
    (u.entries[e]).elim [] (·.beats) = (s.entries[e]).elim [] (·.beats) := by
  obtain ⟨number, hentries, -⟩ := h
  rw [hentries]
  cases s.entries[e] with
  | none => rfl
  | some c => exact beats_entryAfterRemoval (number e) c

/-- Settles O23: a removal keeps the beats of every entry but one that holds none, and with no drain to complete the rest of
the event leaves the entries. -/
theorem throwingAwayLosesNoBeat : Obligations.ThrowingAwayLosesNoBeat := by
  intro c s t hs hidle hc hexec e
  have hthrown : (∃ p, exec (.kill p) s = .next t ∨ exec (.flush p) s = .next t ∨ exec (.verdictTimerExpiry p) s = .next t) ∨
      exec .hostLinkReset s = .next t := by
    obtain ⟨p, rfl | rfl | rfl⟩ | rfl := hc
    · exact .inl ⟨p, .inl hexec⟩
    · exact .inl ⟨p, .inr (.inl hexec)⟩
    · exact .inl ⟨p, .inr (.inr hexec)⟩
    · exact .inr hexec
  obtain ⟨p, hthrown⟩ | hreset := hthrown
  · cases throws_of_exec hs hthrown with
    | nothing _ _ hentries => simp only [hentries]
    | removes gone v x u hv htags hentries happly hremoves hgone hu =>
      have hx : Lawful x := hremoves.lawful hv fun q hq r hr => hgone q hq r ((htags q).symm.trans hr)
      have hxIdle : x.apply = .idle := by
        obtain ⟨-, -, -, -, -, -, -, honly⟩ := hremoves
        rw [honly]
        exact happly.trans hidle
      have hbeats := beats_of_entriesLeft hremoves.2.2.2.2.2.1 e
      simp only [hentries] at hbeats
      obtain ⟨e', rfl | rfl⟩ := hu
      · simp only [entries_settle_of_idle hx hxIdle, hbeats]
      · simp only [entries_settle_of_idle (u := x.raise e') (hx.raise e') hxIdle, State.raise_entries, hbeats]
  · obtain ⟨t', u, hexec', -, -, -, -, -, -, -, -, -, -, -, -, -, -, -, -, -, hleft, hsame, -⟩ :=
      hostLinkResetSparesCommittedWrites s hs
    obtain rfl := Host.Outcome.next.inj (hreset.symm.trans hexec')
    simp only [(hsame hidle).1]
    exact beats_of_entriesLeft hleft e

end Sys2Proof.Machine
end

section
/-! SUPPORT. A FLUSH in one event: what it selects, what the rest of its event leaves, and what it raises. -/

namespace Sys2Proof.Machine

/-! ## The records that an event raises -/

/-- Records of certain kinds have been added at the young end, and nothing else has happened to the queue. -/
def Adds (K : EventKind → Prop) (s u : State) : Prop :=
  ∃ more : List EventRecord, u.events = s.events ++ more ∧ ∀ e ∈ more, K e.kind

namespace Adds

variable {K L : EventKind → Prop} {s t u : State}

theorem of_same (h : u.events = s.events) : Adds K s u := ⟨[], by rw [h, List.append_nil], fun _ he => (by cases he)⟩

theorem trans (h : Adds K s t) (k : Adds K t u) : Adds K s u := by
  obtain ⟨more, hmore, hkinds⟩ := h
  obtain ⟨rest, hrest, hkinds'⟩ := k
  refine ⟨more ++ rest, by rw [hrest, hmore, List.append_assoc], fun e he => ?_⟩
  exact (List.mem_append.1 he).elim (hkinds e) (hkinds' e)

theorem imp (h : Adds K s u) (himp : ∀ k, K k → L k) : Adds L s u := by
  obtain ⟨more, hmore, hkinds⟩ := h
  exact ⟨more, hmore, fun e he => himp _ (hkinds e he)⟩

theorem raise (s : State) {e : EventRecord} (he : K e.kind) : Adds K s (s.raise e) := by
  by_cases room : s.events.length < 16
  · rw [State.raise_of_room e room]
    refine ⟨_, rfl, fun x hx => ?_⟩
    obtain rfl := List.mem_singleton.1 hx
    exact he
  · rw [State.raise_of_full e (Nat.not_lt.1 room)]
    exact of_same rfl

end Adds

section
variable {s u : State}

theorem adds_makeChange (r : RegionIx) (s : State) : Adds (· = .strandsDiscarded) s (makeChange r s) := by
  unfold makeChange discard
  split
  · exact .of_same rfl
  · obtain ⟨_, hfreed⟩ := freeEntries_only (s.entriesWhere fun c => c.isStrand && decide (c.region = r))
      { s with regions := s.regions.set r s.staging }
    refine .trans (.of_same ?_) (.raise _ rfl)
    rw [hfreed]

/-- A drain that is completed raises STRANDS_DISCARDED and APPLY_DONE, the latch CAPTURE_EXHAUSTED. -/
theorem adds_completeDrain (s : State) : Adds (fun k => s.apply ≠ .idle ∧ (k = .strandsDiscarded ∨ k = .applyDone)) s
    (completeDrain s) := by
  obtain h | ⟨r, n, hdrain, -, h⟩ := completeDrain_cases s
  · exact .of_same (by rw [h])
  · have hbusy : s.apply ≠ .idle := by simp [hdrain]
    rw [h]
    refine .trans (t := makeChange r { s with apply := .idle }) ?_ (.raise _ ⟨hbusy, .inr rfl⟩)
    have hchange : Adds (· = .strandsDiscarded) s (makeChange r { s with apply := .idle }) :=
      adds_makeChange r { s with apply := .idle }
    exact hchange.imp fun k hk => ⟨hbusy, .inl hk⟩

theorem kind_exhaustedEvent (u : State) (p : Pair) : (exhaustedEvent u p).kind = .captureExhausted := by
  unfold exhaustedEvent
  split <;> rfl

theorem adds_followLatch (s u : State) : Adds (· = .captureExhausted) u (followLatch s u) := by
  have hset : Adds (· = .captureExhausted) u (latchSet s u) := by
    unfold latchSet
    split
    · exact .of_same rfl
    · split
      · exact .of_same rfl
      · rename_i p _
        exact .trans (t := u.raise (exhaustedEvent u p)) (.raise u (kind_exhaustedEvent u p)) (.of_same rfl)
  obtain ⟨_, hclear⟩ := latchClear_only s (latchSet s u)
  exact hset.trans (.of_same (by rw [followLatch, hclear]))

theorem adds_settle (s u : State) : Adds (fun k => k = .captureExhausted ∨ (u.apply ≠ .idle ∧
    (k = .strandsDiscarded ∨ k = .applyDone))) u (settle s u) := by
  obtain ⟨_, _, _, _, _, hperformed⟩ := performUnlocks_only u
  have hdrain := adds_completeDrain (performUnlocks u)
  have happly : (performUnlocks u).apply = u.apply := by rw [hperformed]
  rw [happly] at hdrain
  refine .trans (t := performUnlocks u) (.of_same (by rw [hperformed])) ?_
  exact (hdrain.imp fun k hk => .inr hk).trans ((adds_followLatch s _).imp fun k hk => .inl hk)

/-! ## What a FLUSH selects (R49) -/

variable {p : Pair} {r : TagRecord}

/-- The pairs of the uncommitted records of an initiator from an order number on. -/
def flushes (s : State) (i : Initiator) (order : Nat) (q : Pair) : Bool :=
  decide (q.initiator = i) && (s.tag q).any fun w => decide (w.verdict = .none ∧ order ≤ w.order)

theorem flushed_contains (i : Initiator) (order : Nat) : (fun q => (flushed i order s).contains q) = flushes s i order := by
  funext q
  rw [Bool.eq_iff_iff, List.contains_iff_mem, mem_flushed]
  simp [flushes, Option.any_eq_true]

theorem flushes_iff {i : Initiator} {order : Nat} {q : Pair} {w : TagRecord} (hw : s.tag q = some w) :
    flushes s i order q = true ↔ q.initiator = i ∧ w.verdict = .none ∧ order ≤ w.order := by
  simp [flushes, hw]

/-- A FLUSH ends no LOCK-WRITE of another initiator without write. -/
theorem not_ended_of_other {i : Initiator} {order : Nat} {q : Pair} (hq : q.initiator ≠ i) :
    ¬EndsWithoutWrite s (flushes s i order) q := by
  rintro ⟨-, -, k, v, -, -, -, l, -, hgone⟩
  simp [flushes, hq] at hgone

/-- A FLUSH ends the initiator's own LOCK-WRITE exactly if it is WAITING and its LOCK-READ goes. -/
theorem ended_iff {i : Initiator} {order : Nat} {q : Pair} {w : TagRecord} (hw : s.tag q = some w) (hq : q.initiator = i)
    (hkept : ¬(w.verdict = .none ∧ order ≤ w.order)) :
    EndsWithoutWrite s (flushes s i order) q ↔ w.position = .waiting ∧ ∃ k : SlotIx, ∃ v ∈ s.slots[k], v.initiator = i ∧
      v.state = .writing q.tag ∧ ∃ l ∈ v.lockRead, ∃ x ∈ s.tag ⟨i, l⟩, x.verdict = .none ∧ order ≤ x.order := by
  have hnot : flushes s i order q = false := Bool.eq_false_iff.2 fun h => hkept ((flushes_iff hw).1 h).2
  have hread (l : Tag) : flushes s i order ⟨i, l⟩ = true ↔
      ∃ x ∈ s.tag ⟨i, l⟩, x.verdict = .none ∧ order ≤ x.order := by
    simp [flushes, Option.any_eq_true]
  simp only [EndsWithoutWrite, hnot, hw, hq, hread, Option.any_some, decide_eq_true_eq, true_and]

end

/-- Settles O21: the removal is that of the selected records, place by place; after it UNLOCKs that have become ready are
performed, a drain that is due is completed, and the latch follows. -/
theorem flushRemovesTheYounger : Obligations.FlushRemovesTheYounger := by
  intro p r s hs hr selected gone
  have hremoves : Removes gone s (removeRecords (flushed p.initiator r.order s) s) := by
    have h := removes_flushed hs p.initiator r.order
    rwa [flushed_contains] at h
  have hu : Lawful (removeRecords (flushed p.initiator r.order s) s) := hs.flush p.initiator r.order
  have hexec := exec_flush_of_live hr
  generalize removeRecords (flushed p.initiator r.order s) s = u at *
  obtain ⟨hfree, hended, hsame, hsilent, hslots, hentries, haccess, honly⟩ := id hremoves
  obtain ⟨-, hsent, htags, hothers, hleft⟩ := follows_settle hu s
  have happly : u.apply = s.apply := by rw [honly]
  have hevents : u.events = s.events := by rw [honly]
  refine ⟨_, u, hexec, rfl, hremoves, access_settle s u, fun hidle => ?_, hleft, fun q w hw => ?_, ?_⟩
  · exact ⟨entries_settle_of_idle hu (happly.trans hidle) s, strandCounter_settle s u⟩
  · have hgone : gone q = true ↔ q.initiator = p.initiator ∧ selected w := flushes_iff hw
    have hkept (h : ¬(q.initiator = p.initiator ∧ selected w)) : gone q = false := Bool.eq_false_iff.2 (mt hgone.1 h)
    refine ⟨fun hq hselected => ?_, fun hq hsettled => ?_, fun hkind hspared => ?_, fun hq hselected => ?_⟩
    · have hnone := hfree q (hgone.2 ⟨hq, hselected⟩)
      exact (htags q).elim (·.trans hnone) (·.1)
    · have hother (x : Pair) (hx : x.initiator = q.initiator) : u.tag x = s.tag x :=
        hsame x (by simp [gone, hx, hq]) (not_ended_of_other (hx ▸ hq))
      have hnone : u.readyUnlock q.initiator = none :=
        (State.readyUnlock_congr fun t => hother ⟨q.initiator, t⟩ rfl).trans (hsettled.1 q.initiator)
      exact (hothers q.initiator hnone q.tag).trans ((hother q rfl).trans hw)
    · have hspared' : ¬(q.initiator = p.initiator ∧ selected w) := by
        rintro ⟨-, hverdict, horder⟩
        obtain h | h := hspared
        · rw [hverdict] at h
          cases h
        · omega
      refine tag_settle_of_not_unlock (hremoves.tag_kept hs (hkept hspared') hw ?_) ?_
      all_goals obtain h | h := hkind <;> simp [h]
    · have hstays := hkept fun h => hselected h.2
      have hothersKept (hkind : w.kind ≠ .lockWrite) : u.tag q = some w :=
        hremoves.tag_kept hs hstays hw fun h => absurd h hkind
      refine ⟨fun hkind => ?_, fun hkind hverdict => ?_, fun hkind => ?_, fun hkind => ?_⟩
      · exact tag_settle_of_not_unlock (hothersKept (by simp [hkind])) (by simp [hkind])
      · have hbefore := hothersKept (by simp [hkind])
        obtain h | ⟨-, x, hx, -, hcommitted, -⟩ := tag_settle s u q
        · exact h.trans hbefore
        · rw [Option.some_inj.1 (hx.symm.trans hbefore), hverdict] at hcommitted
          cases hcommitted
      · exact (htags q).imp_left fun h => h.trans (hothersKept (by simp [hkind]))
      · intro ended
        have hends : EndsWithoutWrite s gone q ↔ ended := ended_iff hw hq hselected
        refine ⟨fun hnot => ?_, fun hdoes => ?_⟩
        · exact tag_settle_of_not_unlock ((hsame q hstays (mt hends.1 hnot)).trans hw) (by simp [hkind])
        · obtain ⟨hafter, hresponses⟩ := hended q (hends.2 hdoes) w hw
          refine ⟨hsent.subset (by simp [hresponses]), ?_⟩
          obtain h | ⟨hnone, x, hx, hunlock, -⟩ := tag_settle s u q
          · exact h.trans hafter
          · rw [hafter] at hx
            split at hx
            · cases hx
            · obtain rfl := Option.some_inj.1 hx
              exact absurd hunlock (by simp [hkind])
  · obtain ⟨more, hmore, hkinds⟩ := adds_settle s u
    rw [hevents] at hmore
    rw [happly] at hkinds
    exact ⟨more, hmore, hkinds⟩

end Sys2Proof.Machine
end
